-- ==== Sys2Proof/Word.lean ====
section
/-! DEFINITION. The words of the PB-24: the widths the manual gives its fields, and the index types of its flows and groups. -/

namespace Sys2Proof

/-- One byte of a frame (11: sent bit 7 first). -/
abbrev Byte := BitVec 8

/-- A 16-bit field: a stream tag, a sequence number, a per-flow counter (R3, R21, R42). -/
abbrev Half := BitVec 16

/-- One sample of one channel, 24-bit two's complement (R67, R172). -/
abbrev Sample := BitVec 24

/-- One word of a lane position, and one unit counter (R96, R165). -/
abbrev LongWord := BitVec 32

/-- A ring address, 0 to 63 (R110). -/
abbrev Addr := BitVec 6

/-- A flow index, 0 to 47 (R1). -/
abbrev FlowIx := Fin 48

/-- A group number, 0 to 7 (R80). -/
abbrev GroupIx := Fin 8

end Sys2Proof
end

