-- ==== Sys2Proof/Syntax.lean ====
section
/-! DEFINITION. The commands of the PB-24: one constructor per row of spec/opcode_table.json, in the table's order. -/

namespace Sys2Proof

/-- The commands the outside world gives the unit: events of its pins, of the ring and of the tick, and the executions
of the commands its Management Engine has queued. The rows of spec/opcode_table.json, in order; a row's operand is
what its rule says the event names (log entry 2). -/
inductive Instr where
  /-- PIN_RESET: the reset pin, also applied at power-up (R58). -/
  | pinReset
  /-- CARRIER_PRESENT: the line receiver reports carrier on ring-in (R111). -/
  | carrierPresent
  /-- CARRIER_LOSS: the line receiver reports loss of carrier (R111). -/
  | carrierLoss
  /-- FRAME_RECEIVED: the 308 bytes taken as one frame from ring-in (R116). -/
  | frameReceived (bytes : List Byte)
  /-- OWN_RATE_FRAME: ring-out emits a frame at the unit's own frame rate (R115). -/
  | ownRateFrame
  /-- FRAME_SYNC_EDGE: a rising edge of the lane frame sync (R99). -/
  | frameSyncEdge
  /-- BLOCK_BOUNDARY: the block boundary of one flow (R63). -/
  | blockBoundary (f : FlowIx)
  /-- TICK: the 1 ms tick (R73). -/
  | tick
  /-- LATE_THRESHOLD: the tick that brings a flow's silence timer to its late threshold (R74). -/
  | lateThreshold (f : FlowIx)
  /-- CUT_THRESHOLD: the tick that brings a flow's silence timer to its cut threshold (R75). -/
  | cutThreshold (f : FlowIx)
  /-- DRAIN_DEADLINE: the tick that brings a DRAINING flow's drain timer to 50 (R77). -/
  | drainDeadline (f : FlowIx)
  /-- LEASE_EXPIRY: the tick that brings the claim lease to 0 (R138). -/
  | leaseExpiry
  /-- LANE_CLOCK_GAP: the tick that brings the lane gap timer to 2 (R98). -/
  | laneClockGap
  /-- NOTICE_DUE: the tick that brings the retry timer of the SENT notice entry of this number to its interval (R155). -/
  | noticeDue (number : Byte)
  /-- STATUS_GET: its execution (R166). -/
  | statusGet
  /-- FLOW_SET: its execution (R7). -/
  | flowSet
  /-- FLOW_GET: its execution (R167). -/
  | flowGet
  /-- FLOW_ENABLE: its execution (R20). -/
  | flowEnable
  /-- FLOW_DISABLE: its execution (R76). -/
  | flowDisable
  /-- FLOW_RESTART: its execution (R78). -/
  | flowRestart
  /-- GROUP_SET: its execution (R94). -/
  | groupSet
  /-- GROUP_GET: its execution (R168). -/
  | groupGet
  /-- MAP_SET: its execution (R105). -/
  | mapSet
  /-- MAP_GET: its execution (R106). -/
  | mapGet
  /-- LANE_SET: its execution (R106). -/
  | laneSet
  /-- COUNTERS_GET: its execution (R140). -/
  | countersGet
  /-- UNIT_SET: its execution (R145). -/
  | unitSet
  /-- UNIT_RESET_COUNTERS: the execution of UNIT_RESET with scope COUNTERS (R146). -/
  | unitResetCounters
  /-- UNIT_RESET_PLAYOUT: the execution of UNIT_RESET with scope PLAYOUT (R146). -/
  | unitResetPlayout
  /-- UNIT_RESET_CONFIG: the execution of UNIT_RESET with scope CONFIG (R147). -/
  | unitResetConfig
  /-- CLAIM: its execution (R137). -/
  | claim
  /-- RELEASE: its execution (R137). -/
  | release
  /-- UNKNOWN_COMMAND: the execution of a queued command whose code names no command (R135). -/
  | unknownCommand
  /-- LANE_BIT_CLOCK: one lane bit clock (R96). -/
  | laneBitClock
deriving DecidableEq, Repr

end Sys2Proof
end

