-- ==== Sys2Proof/Decode.lean ====
section
/-! DEFINITION. The commands a word of spec/opcode_table.json spells: none, since no row of the table gives bits. -/

namespace Sys2Proof

/-- No row of spec/opcode_table.json has bits (every row's "fields" is empty and none has "fixed"): no word spells a
command, whatever its bits. The commands that arrive as frames are decoded by the ring port's meaning, from the
frame layouts of Section 11 (Machine/Operands.lean). -/
def decodeTableWord (_nbits _w : Nat) : Option Instr := none

end Sys2Proof
end

