-- ==== Sys2Proof/Config.lean ====
section
/-! DEFINITION. What the device fixes (its identity, its pool size), and the one free value of the model. -/

namespace Sys2Proof.Config

/-- The number of buffers of the Block Pool (R43, R44). -/
def poolSize : Nat := 384

/-- The part identity STATUS_GET reports (Table 11-9: 5024h). -/
def partIdentity : Half := 0x5024

/-- The device revision STATUS_GET reports (Table 11-9: 2). -/
def revision : Byte := 2

/-- THE FREE VALUE (log entry 3). The spec does not say in which order one event takes several things it
brings about at once (two timers that reach their thresholds at one tick, two flows' boundaries that follow one lane
frame start, the raises of two flows at one lane frame start). `freeChoice n` names the order of the n-th such case;
it has no body, so nothing can be proved about which order it is. -/
opaque freeChoice : Nat → Nat

end Sys2Proof.Config
end

