-- ==== Sys2Proof/Machine/State.lean ====
section
/-! DEFINITION. The state of the PB-24: every register, queue, window, timer and pin the spec gives it, block by block
(00, Table 0-1), and the state after pin reset. -/

namespace Sys2Proof.Machine

/-! ### Flow Table (Section 1) -/

/-- Block modes (Table 1-2). -/
inductive BlockMode where
  | fixedFull | fixedHalf | perFrame
deriving DecidableEq, Repr

/-- Hold exits (R5). -/
inductive HoldExit where
  | atOnce | reprime
deriving DecidableEq, Repr

/-- Conceal modes (R5). -/
inductive ConcealMode where
  | repeatLast | silence
deriving DecidableEq, Repr

/-- Tap modes (R6, R15). -/
inductive TapMode where
  | tap | take
deriving DecidableEq, Repr

/-- CRC policies (R6, R13). -/
inductive CrcPolicy where
  | discard | keep
deriving DecidableEq, Repr

/-- A flow record: the fourteen fields of Table 1-1 (R2). -/
structure FlowRecord where
  tag : Half
  channels : Nat
  mode : BlockMode
  depth : Nat
  prime : Nat
  holdLimit : Nat
  fade : Nat
  exit : HoldExit
  conceal : ConcealMode
  late : Nat
  cut : Nat
  tap : TapMode
  crc : CrcPolicy
  group : Option GroupIx
deriving DecidableEq, Repr

/-- The default record (Table 1-1). -/
def FlowRecord.default : FlowRecord :=
  { tag := 0, channels := 2, mode := .fixedFull, depth := 8, prime := 3, holdLimit := 8, fade := 4, exit := .atOnce,
    conceal := .repeatLast, late := 0, cut := 100, tap := .tap, crc := .discard, group := none }

/-! ### Playout Window and Block Pool (Sections 2 and 3) -/

/-- The contents of a held buffer (R43). `samples` are ordered by sample frame, then by channel (R14, R172). -/
structure Block where
  seq : Half
  length : Nat
  channels : Nat
  crcBad : Bool
  samples : List Sample
deriving DecidableEq, Repr

/-- The condition of a window entry (R23); a HELD entry holds its buffer's contents (log entry 13). -/
inductive Entry where
  | empty
  | held (b : Block)
  | spent
deriving DecidableEq, Repr

/-- A window (R23): its head and its row of entries; entries at the depth and beyond stay EMPTY (log entry 14). -/
structure Window where
  head : Half
  entries : Vector Entry 32
deriving DecidableEq, Repr

/-- The twelve per-flow counters (R42). -/
inductive Counter where
  | accepted | played | late | duplicate | beyond | noBuffer | concealed | holdDiscards | crcErrors | formatErrors
  | jumps | slips
deriving DecidableEq, Repr

/-- The Block Pool (R43, R44, R53): the length of the free list and the pool-low monitor. -/
structure Pool where
  free : Nat
  threshold : Nat
  armed : Bool
deriving DecidableEq, Repr

/-! ### Playout Engine (Section 4) -/

/-- The state a flow was in when its drain began (Table 4-1). -/
inductive DrainMode where
  | playing | holding
deriving DecidableEq, Repr

/-- The flow states (R57). -/
inductive FlowState where
  | disabled | idle | priming | ready | playing | holding | cut
  | draining (mode : DrainMode)
deriving DecidableEq, Repr

/-- The runtime record of a flow (Table 4-1). A stopped timer is `none` (it reads 0, R73; log entry 15). -/
structure Runtime where
  state : FlowState
  readIndex : Nat
  blockLen : Option Nat
  holdCount : Nat
  fadeStage : Nat
  lastFrame : Option (List Sample)
  lastLen : Option Nat
  silence : Option Nat
  late : Bool
  drain : Option Nat
deriving DecidableEq, Repr

/-- The runtime record after pin reset (Table 4-2). -/
def Runtime.reset : Runtime :=
  { state := .disabled, readIndex := 0, blockLen := none, holdCount := 0, fadeStage := 0, lastFrame := none,
    lastLen := none, silence := none, late := false, drain := none }

/-- All that one flow index names (R1): record, window, held count of the pool (R44), counters, runtime record. -/
structure Flow where
  record : FlowRecord
  window : Window
  held : Nat
  counters : Vector Half 12
  rt : Runtime
deriving DecidableEq, Repr

/-- A flow after pin reset (Table 1-3, R27, R56, R58, R164). -/
def Flow.reset : Flow :=
  { record := .default, window := { head := 0, entries := Vector.replicate 32 .empty }, held := 0,
    counters := Vector.replicate 12 0, rt := .reset }

/-! ### Group Slip Controller (Section 5) -/

/-- Group states (R82). -/
inductive GroupState where
  | forming | running
deriving DecidableEq, Repr

/-- A group record (Table 5-1). -/
structure Group where
  state : GroupState
  pilot : Option FlowIx
  target : Nat
  hysteresis : Nat
  interval : Nat
  debt : Int
  count : Nat
  slipDone : Bool
deriving DecidableEq, Repr

/-- A group after pin reset (Table 5-2). -/
def Group.reset : Group :=
  { state := .forming, pilot := none, target := 4, hysteresis := 1, interval := 16, debt := 0, count := 0,
    slipDone := false }

/-! ### Lane Unit (Section 6) -/

/-- The lane clock status (R98). -/
inductive ClockStatus where
  | absent | present
deriving DecidableEq, Repr

/-- A Position Map entry (R102). -/
inductive MapEntry where
  | silence
  | source (flow : FlowIx) (channel : Fin 8)
deriving DecidableEq, Repr

/-- The two settings of a lane (R104). -/
structure LaneSetting where
  enable : Bool
  mute : Bool
deriving DecidableEq, Repr

/-- The Lane Unit: clock detection (R98), map and settings (R102, R104), and the lane frame being shifted out (R96):
its 64 words, the bits already sent, and the four data pins. -/
structure LaneUnit where
  status : ClockStatus
  gap : Nat
  run : Nat
  map : Vector MapEntry 64
  lanes : Vector LaneSetting 4
  words : Vector LongWord 64
  bitPos : Nat
  out : Vector Bool 4
deriving DecidableEq, Repr

/-- The Lane Unit after pin reset (R101, R107); the shifter's values are log entry 12's. -/
def LaneUnit.reset : LaneUnit :=
  { status := .absent, gap := 2, run := 0, map := Vector.replicate 64 .silence,
    lanes := Vector.replicate 4 { enable := false, mute := false }, words := Vector.replicate 64 0, bitPos := 0,
    out := Vector.replicate 4 false }

/-! ### Ring Port (Section 7) -/

/-- Receive synchronisation states (R111). -/
inductive RxState where
  | down | acquiring | up
deriving DecidableEq, Repr

/-- Answer statuses (Table 8-4). -/
inductive Status where
  | done | queueFull | notHolder | claimed | badIndex | badState | invalidField | tagInUse | noReservation
  | groupMismatch | unknownCommand
deriving DecidableEq, Repr

/-- An entry of the answer queue (R119) and of the answer cache, where `dest` and `tag` are its key (R134). -/
structure Answer where
  dest : Addr
  tag : Byte
  code : Byte
  status : Status
  detail : Byte
  data : List Byte
deriving DecidableEq, Repr

/-- The Ring Port (Table 0-1): receive synchronisation (R111), the carrier level and alignment of its receiver, own
address (R110), answer queue (R119), ring error counters (R125), and the frame last sent on ring-out (R114). -/
structure RingPort where
  rx : RxState
  goodRun : Nat
  badRun : Nat
  carrier : Bool
  alignment : Nat
  own : Addr
  answers : List Answer
  headerErrors : LongWord
  orphans : LongWord
  ringOut : Option (List Byte)
deriving DecidableEq, Repr

/-- The Ring Port after pin reset with no carrier (R110, R112, R119, R125; log entries 9, 10, 11). -/
def RingPort.reset : RingPort :=
  { rx := .down, goodRun := 0, badRun := 0, carrier := false, alignment := 0, own := 63, answers := [],
    headerErrors := 0, orphans := 0, ringOut := none }

/-! ### Management Engine (Section 8) -/

/-- A queued command (Table 8-1). -/
structure QueuedCommand where
  origin : Addr
  tag : Byte
  code : Byte
  length : Nat
  params : List Byte
deriving DecidableEq, Repr

/-- The claim record (R136). -/
structure Claim where
  holder : Option Addr
  lease : Nat
  length : Nat
deriving DecidableEq, Repr

/-- The Management Engine: command queue (R126), the flow whose drain the command in execution waits for (R142), claim
(R136), answer cache (R134), its counters (R149). -/
structure Mgmt where
  queue : List QueuedCommand
  deferred : Option FlowIx
  claim : Claim
  cache : List Answer
  crcErrors : LongWord
  lost : LongWord
  absorbed : LongWord
deriving DecidableEq, Repr

/-- The Management Engine after pin reset (R126, R134, R136, R149). -/
def Mgmt.reset : Mgmt :=
  { queue := [], deferred := none, claim := { holder := none, lease := 0, length := 0 }, cache := [], crcErrors := 0,
    lost := 0, absorbed := 0 }

/-! ### Notice Unit (Section 9) -/

/-- Notice kinds (Table 9-1). -/
inductive NoticeKind where
  | flowState | flowLate | counterWrap | poolLow | groupResync | laneClock | ringIn | claimLost | overflow
deriving DecidableEq, Repr

/-- What a notice is about (R150). -/
inductive Subject where
  | none
  | flow (f : FlowIx)
  | group (g : GroupIx)
deriving DecidableEq, Repr

/-- The condition of a notice entry (Table 9-2), with the retry timer and the interval in use of a SENT entry. -/
inductive NoticeCondition where
  | pending
  | sent (timer interval : Nat)
deriving DecidableEq, Repr

/-- A raise (R150). `dest` is the former holder a CLAIM_LOST raise carries. -/
structure Raise where
  kind : NoticeKind
  subject : Subject
  detail : Byte
  dest : Option Addr
deriving DecidableEq, Repr

/-- A notice entry (Table 9-2). -/
structure NoticeEntry where
  number : Byte
  kind : NoticeKind
  subject : Subject
  detail : Byte
  repeats : Nat
  condition : NoticeCondition
  sendCount : Nat
  fixedDest : Option Addr
deriving DecidableEq, Repr

/-- The NOTICE frame on offer to the Ring Port (R120). -/
structure Offer where
  dest : Addr
  number : Byte
  kind : NoticeKind
  subject : Subject
  detail : Byte
  repeats : Nat
deriving DecidableEq, Repr

/-- The Notice Unit: mask (R151), notice list with the overflow place (R152; log entry 16), overflow flag (R154),
retry interval, number counter (R153), offer (R120), its counters (R161). -/
structure NoticeUnit where
  mask : BitVec 16
  entries : List NoticeEntry
  overflow : Bool
  retry : Nat
  nextNumber : Byte
  offer : Option Offer
  lost : LongWord
  acksIgnored : LongWord
deriving DecidableEq, Repr

/-- The Notice Unit after pin reset (Table 9-3). -/
def NoticeUnit.reset : NoticeUnit :=
  { mask := 0, entries := [], overflow := false, retry := 20, nextNumber := 0, offer := none, lost := 0,
    acksIgnored := 0 }

/-! ### The whole unit -/

/-- The state of the unit (Table 0-1), the count of open orders taken (log entry 3), and the queue of the commands that
wait for it, first in first out (log entry 1). -/
structure State where
  flows : Vector Flow 48
  pool : Pool
  groups : Vector Group 8
  lane : LaneUnit
  ring : RingPort
  mgmt : Mgmt
  notice : NoticeUnit
  choices : Nat
  pending : List Instr
deriving DecidableEq, Repr

/-- What stops the unit: nothing. The spec reports every error by counters, answers and notices (00, Conventions). -/
inductive Fault where
deriving DecidableEq, Repr

/-- Why a command has no meaning. -/
inductive Refusal where
  /-- Raised by an arm of exec whose command is not modelled yet (safe: no claim about it can be proved). No arm
  raises it. -/
  | notModelled (mnemonic : String)
deriving DecidableEq, Repr

/-- The unit right after pin reset, with no carrier on ring-in (R8, R27, R56, R58, R95, R101, R107, R112, R119, R126,
R134, R136, R161). -/
def State.reset : State :=
  { flows := Vector.replicate 48 .reset, pool := { free := Config.poolSize, threshold := 0, armed := true },
    groups := Vector.replicate 8 .reset, lane := .reset, ring := .reset, mgmt := .reset, notice := .reset,
    choices := 0, pending := [] }

end Sys2Proof.Machine
end

