-- ==== Sys2Proof/Machine/Operands.lean ====
section
/-! DEFINITION. The forms of what crosses the ring: checks, header fields, SAMPLE bodies, COMMAND parameters, flow
records, and the frames and answer data the unit builds (Section 11). -/

namespace Sys2Proof.Machine

/-! ### Bytes -/

/-- Byte `i` of a list of bytes; bytes that are not there read as zero. -/
def byteAt (bs : List Byte) (i : Nat) : Byte := bs.getD i 0

/-- The big-endian 16-bit field at byte `i` (11: most significant byte first). -/
def halfAt (bs : List Byte) (i : Nat) : Half := byteAt bs i ++ byteAt bs (i + 1)

/-- The two bytes of a 16-bit field, most significant first. -/
def halfBytes (h : Half) : List Byte := [h.extractLsb' 8 8, h.extractLsb' 0 8]

/-- The two bytes of a count carried in a 16-bit field. -/
def natHalfBytes (n : Nat) : List Byte := halfBytes (BitVec.ofNat 16 n)

/-- The four bytes of a unit counter, most significant first. -/
def longBytes (w : LongWord) : List Byte :=
  [w.extractLsb' 24 8, w.extractLsb' 16 8, w.extractLsb' 8 8, w.extractLsb' 0 8]

/-- A single-byte count. -/
def natByte (n : Nat) : Byte := BitVec.ofNat 8 n

/-- A set/clear, on/off or yes/no byte (R173: 0 for off, 1 for on). -/
def flagByte (b : Bool) : Byte := if b then 1 else 0

/-- An address byte: the address in bits 5-0, bits 7-6 zero (Table 11-1). -/
def addrByte (a : Addr) : Byte := a.zeroExtend 8

/-- The address bits 5-0 of a byte (R170: addresses are compared by bits 5-0 alone). -/
def byteAddr (b : Byte) : Addr := b.extractLsb' 0 6

/-- A list of bytes followed by zeros up to `n` bytes. -/
def padTo (n : Nat) (bs : List Byte) : List Byte := (bs ++ List.replicate (n - bs.length) 0).take n

/-! ### Checks (R171) -/

/-- One bit of the check procedure: the bit is compared with the register's most significant bit, the register is
shifted left, and the generator is combined in if they differed (R171). -/
def crcBit {w : Nat} (gen : BitVec w) (reg : BitVec w) (bit : Bool) : BitVec w :=
  if bit == reg.msb then reg <<< 1 else (reg <<< 1) ^^^ gen

/-- One byte of the check procedure, most significant bit first (R171). -/
def crcByte {w : Nat} (gen : BitVec w) (reg : BitVec w) (b : Byte) : BitVec w :=
  [7, 6, 5, 4, 3, 2, 1, 0].foldl (fun r i => crcBit gen r (b.getLsbD i)) reg

/-- `k` of the register `x`, its value worked out first (the kernel then goes through a long body without nesting): `k x`,
as `settled_eq` of Laws/Ops.lean says. -/
def settled {w : Nat} {α : Type} (x : BitVec w) (k : BitVec w → α) : α :=
  match x.toNat with
  | 0 => k (BitVec.ofNat w 0)
  | n + 1 => k (BitVec.ofNat w (n + 1))

/-- The check of a list of bytes, in frame order, from the register `reg` (R171). -/
def crcOf {w : Nat} (gen reg : BitVec w) : List Byte → BitVec w
  | [] => reg
  | b :: bs => settled (crcByte gen reg b) fun r => crcOf gen r bs

/-- The header check of the first nine header bytes (Table 11-3). -/
def headerCheck (bs : List Byte) : Byte := crcOf (w := 8) 0x07 0xFF (bs.take 9)

/-- The body CRC of a 296-byte body (Table 11-3). -/
def bodyCrc (body : List Byte) : Half := crcOf (w := 16) 0x1021 0xFFFF body

/-! ### Reading a frame (R170) -/

/-- The kind code of a header (Table 11-1: byte 0 bits 7-5). -/
def kindCode (bs : List Byte) : Nat := ((byteAt bs 0).extractLsb' 5 3).toNat

/-- The HALF flag (Table 11-1: byte 0 bit 4). -/
def halfFlag (bs : List Byte) : Bool := (byteAt bs 0).getLsbD 4

/-- The hop count (Table 11-1: byte 1). -/
def hopCount (bs : List Byte) : Nat := (byteAt bs 1).toNat

/-- The origin address (Table 11-1: byte 2 bits 5-0). -/
def frameOrigin (bs : List Byte) : Addr := byteAddr (byteAt bs 2)

/-- The destination address (Table 11-1: byte 3 bits 5-0). -/
def frameDest (bs : List Byte) : Addr := byteAddr (byteAt bs 3)

/-- The channel count of a SAMPLE frame (Table 11-1: byte 3 bits 2-0 plus 1). -/
def sampleChannels (bs : List Byte) : Nat := ((byteAt bs 3).extractLsb' 0 3).toNat + 1

/-- The stream tag of a SAMPLE frame (Table 11-2). -/
def sampleTag (bs : List Byte) : Half := halfAt bs 4

/-- The sequence number of a SAMPLE frame (Table 11-2). -/
def sampleSeq (bs : List Byte) : Half := halfAt bs 6

/-- The 296-byte body of a frame (R108). -/
def frameBody (bs : List Byte) : List Byte := (bs.drop 10).take 296

/-- The body CRC of a received frame is good (R171: frame bytes 306 and 307, high byte first). -/
def bodyGood (bs : List Byte) : Bool := bodyCrc (frameBody bs) == halfAt bs 306

/-- A received header is good (R109). -/
def goodHeader (bs : List Byte) : Bool :=
  (headerCheck bs == byteAt bs 9) && decide (kindCode bs ≤ 5) && decide (hopCount bs ≤ 63)

/-- The length of the block a SAMPLE frame carries (R14, R172). -/
def sampleLength (bs : List Byte) : Nat := if halfFlag bs then 6 else 12

/-- The `i`-th sample of a SAMPLE body: 3 bytes, high byte first (R172). -/
def bodySample (body : List Byte) (i : Nat) : Sample :=
  byteAt body (3 * i) ++ byteAt body (3 * i + 1) ++ byteAt body (3 * i + 2)

/-- The block a SAMPLE frame carries, with the CRC-bad mark the CRC policy gave it (R14). -/
def sampleBlock (bs : List Byte) (crcBad : Bool) : Block :=
  { seq := sampleSeq bs, length := sampleLength bs, channels := sampleChannels bs, crcBad := crcBad,
    samples := (List.range (sampleLength bs * sampleChannels bs)).map (bodySample (frameBody bs)) }

/-- The command a COMMAND frame carries (Table 8-1): its parameters are the body bytes the length covers. -/
def frameCommand (bs : List Byte) : QueuedCommand :=
  { origin := frameOrigin bs, tag := byteAt bs 4, code := byteAt bs 5, length := (halfAt bs 6).toNat,
    params := (frameBody bs).take (halfAt bs 6).toNat }

/-! ### Codes (Tables 11-5 to 11-7) -/

/-- Answer status codes (Table 11-6). -/
def statusCode : Status → Byte
  | .done => 0
  | .queueFull => 1
  | .notHolder => 2
  | .claimed => 3
  | .badIndex => 4
  | .badState => 5
  | .invalidField => 6
  | .tagInUse => 7
  | .noReservation => 8
  | .groupMismatch => 9
  | .unknownCommand => 10

/-- Flow state codes (R173). -/
def stateCode : FlowState → Byte
  | .disabled => 0
  | .idle => 1
  | .priming => 2
  | .ready => 3
  | .playing => 4
  | .holding => 5
  | .cut => 6
  | .draining _ => 7

/-- Notice kind codes (Table 11-7). -/
def noticeCode : NoticeKind → Nat
  | .flowState => 0
  | .flowLate => 1
  | .counterWrap => 2
  | .poolLow => 3
  | .groupResync => 4
  | .laneClock => 5
  | .ringIn => 6
  | .claimLost => 7
  | .overflow => 8

/-- The subject byte of a NOTICE (R170: 255 for none). -/
def subjectByte : Subject → Byte
  | .none => 255
  | .flow f => natByte f.val
  | .group g => natByte g.val

/-- The position of a counter in the order of the counter ids, from 0 (R42). -/
def Counter.index : Counter → Fin 12
  | .accepted => 0
  | .played => 1
  | .late => 2
  | .duplicate => 3
  | .beyond => 4
  | .noBuffer => 5
  | .concealed => 6
  | .holdDiscards => 7
  | .crcErrors => 8
  | .formatErrors => 9
  | .jumps => 10
  | .slips => 11

/-- A counter's id, 1 to 12 (R42). -/
def Counter.id (c : Counter) : Byte := natByte (c.index.val + 1)

/-- An optional flow index as a byte, 255 for NONE (R173). -/
def flowByte : Option FlowIx → Byte
  | none => 255
  | some f => natByte f.val

/-- An optional group as a byte, 255 for NONE (Table 11-8). -/
def groupByte : Option GroupIx → Byte
  | none => 255
  | some g => natByte g.val

/-- The claim holder as a byte, 63 for NONE (Table 8-4, Table 11-9). -/
def holderByte : Option Addr → Byte
  | none => 63
  | some a => addrByte a

/-- A byte that names a flow: an index 0 to 47 (R173). -/
def byteFlow (b : Byte) : Option FlowIx := if h : b.toNat < 48 then some ⟨b.toNat, h⟩ else none

/-- A byte that names a group: 0 to 7 (R173). -/
def byteGroup (b : Byte) : Option GroupIx := if h : b.toNat < 8 then some ⟨b.toNat, h⟩ else none

/-! ### Frames the unit sends -/

/-- A header of nine bytes completed with its check (R171). -/
def withHeaderCheck (nine : List Byte) : List Byte := nine ++ [headerCheck nine]

/-- A whole frame of nine header bytes and a body, with both checks (R118, R171). -/
def buildFrame (nine body : List Byte) : List Byte :=
  withHeaderCheck nine ++ body ++ halfBytes (bodyCrc body)

/-- The FILL frame the unit emits (R118). -/
def fillFrame (own : Addr) : List Byte :=
  buildFrame [0, 0, addrByte own, addrByte 63, 0, 0, 0, 0, 0] (padTo 296 [])

/-- The ANSWER frame of a queued answer, stamped with the own address at emission (R118, R170, R173). -/
def answerFrame (own : Addr) (a : Answer) : List Byte :=
  buildFrame [0x60, 0, addrByte own, addrByte a.dest, a.tag, a.code, statusCode a.status, a.detail, 0]
    (padTo 296 a.data)

/-- The NOTICE frame of an offer, stamped with the own address at emission (R118, R170, R174). -/
def noticeFrame (own : Addr) (o : Offer) : List Byte :=
  buildFrame [0x80, 0, addrByte own, addrByte o.dest, o.number, natByte (noticeCode o.kind), subjectByte o.subject,
    o.detail, 0] (padTo 296 [natByte o.repeats])

/-- A received frame as it is forwarded: hop count one higher, header check renewed, the rest as received (R117). -/
def forwardFrame (bs : List Byte) : List Byte :=
  withHeaderCheck ((bs.set 1 (byteAt bs 1 + 1)).take 9) ++ bs.drop 10

/-- A ROLLCALL frame with the next address and the count replaced (R117, R122, R123). -/
def withRollcall (bs : List Byte) (next : Byte) (count : Half) : List Byte :=
  ((bs.set 5 next).set 6 (count.extractLsb' 8 8)).set 7 (count.extractLsb' 0 8)

/-! ### Flow records in frames (Table 11-8) -/

/-- Block mode encoding. -/
def byteMode (b : Byte) : Option BlockMode :=
  if b = 0 then some .fixedFull else if b = 1 then some .fixedHalf else if b = 2 then some .perFrame else none

/-- Block mode encoding, written. -/
def modeByte : BlockMode → Byte
  | .fixedFull => 0
  | .fixedHalf => 1
  | .perFrame => 2

/-- The record the 18 bytes encode, each field by its encoding; meant for bytes that `recordFault` passes. -/
def parseRecord (r : List Byte) : FlowRecord :=
  { tag := halfAt r 0
    channels := (byteAt r 2).toNat
    mode := (byteMode (byteAt r 3)).getD .fixedFull
    depth := (byteAt r 4).toNat
    prime := (byteAt r 5).toNat
    holdLimit := (byteAt r 6).toNat
    fade := (byteAt r 7).toNat
    exit := if byteAt r 8 = 1 then .reprime else .atOnce
    conceal := if byteAt r 9 = 1 then .silence else .repeatLast
    late := (halfAt r 10).toNat
    cut := (halfAt r 12).toNat
    tap := if byteAt r 14 = 1 then .take else .tap
    crc := if byteAt r 15 = 1 then .keep else .discard
    group := byteGroup (byteAt r 16) }

/-- A byte that encodes one of two values (Table 11-8). -/
def isBit (b : Byte) : Bool := decide (b.toNat ≤ 1)

/-- The first of a list of numbered checks that fails. -/
def firstFailing : List (Nat × Bool) → Option Nat
  | [] => none
  | (n, ok) :: rest => if ok then firstFailing rest else some n

/-- The identifier of the first field of the 18 record bytes that is out of range or in conflict with an earlier one
(Table 1-1, R7), the fields taken in the order of their identifiers. -/
def recordFault (r : List Byte) : Option Nat :=
  firstFailing
    [ (1, true)
    , (2, decide (1 ≤ (byteAt r 2).toNat ∧ (byteAt r 2).toNat ≤ 8))
    , (3, (byteMode (byteAt r 3)).isSome)
    , (4, decide (2 ≤ (byteAt r 4).toNat ∧ (byteAt r 4).toNat ≤ 32))
    , (5, decide (1 ≤ (byteAt r 5).toNat ∧ (byteAt r 5).toNat ≤ (byteAt r 4).toNat))
    , (6, decide (1 ≤ (byteAt r 6).toNat ∧ (byteAt r 6).toNat ≤ 64))
    , (7, decide ((byteAt r 7).toNat ≤ 16 ∧ (byteAt r 7).toNat ≤ (byteAt r 6).toNat))
    , (8, isBit (byteAt r 8))
    , (9, isBit (byteAt r 9))
    , (10, true)
    , (11, decide (1 ≤ (halfAt r 12).toNat ∧
        ((halfAt r 10).toNat = 0 ∨ (halfAt r 10).toNat < (halfAt r 12).toNat)))
    , (12, isBit (byteAt r 14))
    , (13, isBit (byteAt r 15))
    , (14, decide ((byteAt r 16).toNat ≤ 7 ∨ (byteAt r 16).toNat = 255)) ]

/-- The 18 bytes of a record (Table 11-8). -/
def recordBytes (r : FlowRecord) : List Byte :=
  halfBytes r.tag ++
    [ natByte r.channels, modeByte r.mode, natByte r.depth, natByte r.prime, natByte r.holdLimit, natByte r.fade,
      flagByte (r.exit == .reprime), flagByte (r.conceal == .silence) ] ++
    natHalfBytes r.late ++ natHalfBytes r.cut ++
    [flagByte (r.tap == .take), flagByte (r.crc == .keep), groupByte r.group, 0]

/-- A Position Map entry in a MAP_GET answer (Table 11-4). -/
def mapEntryBytes : MapEntry → List Byte
  | .silence => [0, 0, 0]
  | .source f c => [1, natByte f.val, natByte c.val]

end Sys2Proof.Machine
end

