-- ==== Sys2Proof/Machine/Flags.lean ====
section
/-! DEFINITION. What the blocks read off the state: measures of a window, sets of flow states, membership and
reference of a group, the pool's derived figures, the answer room, and the increase of a counter. -/

namespace Sys2Proof.Machine

/-! ### Sets of flow states -/

/-- Enabled: IDLE, PRIMING, READY, PLAYING, HOLDING or CUT (R1). -/
def FlowState.enabled : FlowState → Bool
  | .idle | .priming | .ready | .playing | .holding | .cut => true
  | .disabled | .draining _ => false

/-- DRAINING in either mode (R57). -/
def FlowState.isDraining : FlowState → Bool
  | .draining _ => true
  | _ => false

/-- Matchable: enabled or DRAINING (R1). -/
def FlowState.matchable (x : FlowState) : Bool := x.enabled || x.isDraining

/-- PLAYING or HOLDING (R82, R83). -/
def FlowState.playsOrHolds : FlowState → Bool
  | .playing | .holding => true
  | _ => false

/-- The states that present samples: PLAYING, HOLDING, DRAINING (4.2, R62). -/
def FlowState.presenting (x : FlowState) : Bool := x.playsOrHolds || x.isDraining

/-- The timed states, in which the silence timer runs: PRIMING, READY, PLAYING, HOLDING (4.2, R73). -/
def FlowState.timed : FlowState → Bool
  | .priming | .ready | .playing | .holding => true
  | _ => false

/-! ### Windows (R21 to R26) -/

/-- An entry is HELD. -/
def Entry.isHeld : Entry → Bool
  | .held _ => true
  | _ => false

/-- The entry at offset `k` (R23); beyond the row there is nothing held. -/
def Window.entryAt (w : Window) (k : Nat) : Entry := if h : k < 32 then w.entries[k] else .empty

/-- The offset of sequence number `s` from head `h` (R21): the difference modulo 65536, read as a signed value. -/
def seqOffset (s h : Half) : Int := (s - h).toInt

/-- The fill: the number of HELD entries (R26). -/
def Window.fill (w : Window) : Nat := (w.entries.toList.filter Entry.isHeld).length

/-- The contiguous fill: HELD entries from offset 0 up to the first that is not HELD (R26). -/
def Window.contiguous (w : Window) : Nat := (w.entries.toList.takeWhile Entry.isHeld).length

/-- The highest held offset, 0 when nothing is HELD (R26). -/
def Window.highest (w : Window) : Nat :=
  (List.range 32).foldl (fun m k => if (w.entryAt k).isHeld then k else m) 0

/-- The CRC-bad mark of the block in entry 0, clear when entry 0 is not HELD (R26). -/
def Window.headCrcBad (w : Window) : Bool :=
  match w.entryAt 0 with
  | .held b => b.crcBad
  | _ => false

/-! ### Placement cases (R22, R30) -/

/-- An arrival at offset `d` is in the jump band (R22, R30 case 1). -/
def jumps (d : Int) : Bool := decide (512 ≤ d ∨ d ≤ -512)

/-- The priming rebase condition of R30 case 2 and R31. -/
def rebases (fl : Flow) (d : Int) : Bool :=
  decide (fl.rt.state = .priming) &&
    decide (-((fl.record.depth : Int) - 1 - fl.window.highest) ≤ d ∧ d ≤ -1)

/-- An arrival at offset `d` of a window of this depth lies beyond it (R30 case 6). -/
def liesBeyond (depth : Nat) (d : Int) : Bool := decide ((depth : Int) ≤ d)

/-! ### States of the unit -/

/-- One flow of the unit. -/
def State.flow (s : State) (f : FlowIx) : Flow := s.flows[f.val]

/-- One group of the unit. -/
def State.group (s : State) (g : GroupIx) : Group := s.groups[g.val]

/-- All flow indexes, ascending. -/
def allFlows : List FlowIx := List.finRange 48

/-- The unit is assigned: its own address is not 63 (R110). -/
def State.assigned (s : State) : Bool := s.ring.own != 63

/-- Flow `f` is a member of group `g` (R81). -/
def State.isMember (s : State) (g : GroupIx) (f : FlowIx) : Bool :=
  (s.flow f).rt.state.enabled && ((s.flow f).record.group == some g)

/-- The members of a group, ascending (R81, R168). -/
def State.members (s : State) (g : GroupIx) : List FlowIx := allFlows.filter (s.isMember g)

/-- Flow `f` is a member of `g` in PLAYING or HOLDING (R83). -/
def State.candidate (s : State) (g : GroupIx) (f : FlowIx) : Bool :=
  s.isMember g f && (s.flow f).rt.state.playsOrHolds

/-- The reference flow of a group (R83): the pilot if it is a candidate, else the lowest candidate, else none. -/
def State.reference (s : State) (g : GroupIx) : Option FlowIx :=
  match (s.group g).pilot with
  | some p => if s.candidate g p then some p else allFlows.find? (s.candidate g)
  | none => allFlows.find? (s.candidate g)

/-- The matchable flow that holds a stream tag (R9, R17); tag 0 matches no flow (R3). -/
def State.holderOfTag (s : State) (tag : Half) : Option FlowIx :=
  if tag = 0 then none
  else allFlows.find? (fun f => (s.flow f).rt.state.matchable && ((s.flow f).record.tag == tag))

/-- One flow's part of the outstanding reservation (R45). -/
def Flow.owed (fl : Flow) : Nat := if fl.rt.state.matchable then fl.record.prime - fl.held else 0

/-- The outstanding reservation (R45). -/
def State.outstanding (s : State) : Nat := (allFlows.map (fun f => (s.flow f).owed)).sum

/-- Shared free: the free count less the outstanding reservation (R45). -/
def State.sharedFree (s : State) : Nat := s.pool.free - s.outstanding

/-- The Block Pool grants a request of flow `f` (R48). -/
def State.grants (s : State) (f : FlowIx) : Bool :=
  decide ((s.flow f).held < (s.flow f).record.prime) || decide (0 < s.sharedFree)

/-- The answer room (R130). -/
def State.answerRoom (s : State) : Nat := 8 - s.ring.answers.length - s.mgmt.queue.length

/-- The mask setting of a notice kind (R151, R173: bit n for kind code n). -/
def State.maskOn (s : State) (k : NoticeKind) : Bool := s.notice.mask.getLsbD (noticeCode k)

/-- A flow's read index has reached its current block length in a presenting state: its boundary is due (R63). -/
def Flow.boundaryDue (fl : Flow) : Bool :=
  fl.rt.state.presenting && (fl.rt.blockLen == some fl.rt.readIndex)

/-- A flow's counter. -/
def Flow.counter (fl : Flow) (c : Counter) : Half := fl.counters[c.index.val]

/-- A flow with one counter increased by 1; it wraps from 65535 to 0 (R163). -/
def Flow.bump (fl : Flow) (c : Counter) : Flow :=
  { fl with counters := fl.counters.set c.index.val (fl.counter c + 1) }

/-- A flow with all twelve counters at 0 (R164). -/
def Flow.clearCounters (fl : Flow) : Flow := { fl with counters := Vector.replicate 12 0 }

/-! ### Concealment (R66, R67) -/

/-- The concealment length (R66, Table 1-2). -/
def concealLength (r : FlowRecord) (lastLen : Option Nat) : Nat :=
  match r.mode with
  | .fixedFull => 12
  | .fixedHalf => 6
  | .perFrame => lastLen.getD 12

/-- The fade stage for hold count `k` (R67). -/
def fadeStageFor (r : FlowRecord) (k : Nat) : Nat :=
  match r.conceal with
  | .repeatLast => if k ≤ r.fade then r.fade + 1 - k else 0
  | .silence => 0

/-- One sample of the concealment sample frame: the sample times the stage, divided by F + 1, rounded toward zero
(R67). -/
def fadeSample (stage fade : Nat) (x : Sample) : Sample :=
  BitVec.ofInt 24 ((x.toInt * (stage : Int)).tdiv ((fade : Int) + 1))

/-- Sample frame `i` of a block (R172). -/
def Block.frame (b : Block) (i : Nat) : List Sample := (b.samples.drop (i * b.channels)).take b.channels

/-- A flow's last sample frame; none is read as zeros (R57). -/
def Flow.lastOrZeros (fl : Flow) : List Sample := fl.rt.lastFrame.getD (List.replicate fl.record.channels 0)

/-- The concealment sample frame (R67). -/
def Flow.concealFrame (fl : Flow) : List Sample := fl.lastOrZeros.map (fadeSample fl.rt.fadeStage fl.record.fade)

/-- The sample frame at the read index of the block in entry 0 (R62); zeros where entry 0 is not HELD, which R24
rules out while a flow plays. -/
def Flow.headFrame (fl : Flow) : List Sample :=
  match fl.window.entryAt 0 with
  | .held b => b.frame fl.rt.readIndex
  | _ => List.replicate fl.record.channels 0

/-- The sample frame a flow presents at a lane frame start, if it presents one (R62). -/
def Flow.presented (fl : Flow) : Option (List Sample) :=
  match fl.rt.state with
  | .playing | .draining .playing => some fl.headFrame
  | .holding | .draining .holding => some fl.concealFrame
  | .disabled | .idle | .priming | .ready | .cut => none

/-- The word a sample makes: the sample in the upper 24 bits (R96). -/
def sampleWord (x : Sample) : LongWord := x ++ (0 : Byte)

/-- The word of lane `l`, position `p`, by the first case of Table 6-1 that holds (R103). The flows are as the
presentations of the lane frame start leave them. -/
def State.formWord (s : State) (l : Fin 4) (p : Fin 16) : LongWord :=
  let setting := s.lane.lanes[l.val]
  if !setting.enable then 0
  else if setting.mute then 0
  else
    match s.lane.map[l.val * 16 + p.val] with
    | .silence => 0
    | .source f c =>
      match (s.flow f).presented with
      | none => 0
      | some frame => if (s.flow f).record.channels ≤ c.val then 0 else sampleWord (frame.getD c.val 0)

end Sys2Proof.Machine
end

