-- ==== Sys2Proof/Machine/Ops.lean ====
section
/-! DEFINITION. The named operations every command is built from: one accessor per part of the state, open orders,
raising a notice, counting, taking and giving back buffers, moving a window, entering a flow state, and completing a
command. -/

namespace Sys2Proof.Machine

/-! ### Writing one part of the state -/

/-- Replace one flow. -/
def State.setFlow (s : State) (f : FlowIx) (x : Flow) : State := { s with flows := s.flows.set f.val x }

/-- Replace the runtime record of one flow. -/
def State.setRt (s : State) (f : FlowIx) (r : Runtime) : State := s.setFlow f { s.flow f with rt := r }

/-- Replace the window of one flow. -/
def State.setWindow (s : State) (f : FlowIx) (w : Window) : State := s.setFlow f { s.flow f with window := w }

/-- Replace one group. -/
def State.setGroup (s : State) (g : GroupIx) (x : Group) : State := { s with groups := s.groups.set g.val x }

/-- Replace the Block Pool's own values. -/
def State.withPool (s : State) (p : Pool) : State := { s with pool := p }

/-- Replace the Lane Unit. -/
def State.withLane (s : State) (l : LaneUnit) : State := { s with lane := l }

/-- Replace the Ring Port. -/
def State.withRing (s : State) (r : RingPort) : State := { s with ring := r }

/-- Replace the Management Engine. -/
def State.withMgmt (s : State) (m : Mgmt) : State := { s with mgmt := m }

/-- Replace the Notice Unit. -/
def State.withNotice (s : State) (n : NoticeUnit) : State := { s with notice := n }

/-! ### Open orders (log entry 3) -/

/-- Insert an element at position `i`, or at the end where the list is shorter. -/
def insertAt {α : Type} (x : α) : List α → Nat → List α
  | [], _ => [x]
  | y :: ys, i => if i = 0 then x :: y :: ys else y :: insertAt x ys (i - 1)

/-- The order of a list that the number `n` names: every order of the list is named by some number. -/
def orderBy {α : Type} (n : Nat) : List α → List α
  | [] => []
  | x :: xs => insertAt x (orderBy (n / (xs.length + 1)) xs) (n % (xs.length + 1))

/-- The spec leaves open in which order several things one event brings about are taken: they are taken in the order
the free value names (log entry 3). Nothing is open about one thing alone. -/
def State.openOrder {α : Type} (s : State) (l : List α) : List α :=
  match l with
  | [] => []
  | [x] => [x]
  | x :: y :: rest => orderBy (Config.freeChoice s.choices) (x :: y :: rest)

/-- The state after an open order of the list has been taken. -/
def State.orderTaken {α : Type} (s : State) (l : List α) : State :=
  match l with
  | [] => s
  | [_] => s
  | _ :: _ :: _ => { s with choices := s.choices + 1 }

/-! ### Raising a notice (R150 to R154) -/

/-- An entry is a PENDING one of this kind and subject. -/
def NoticeEntry.pendingOf (e : NoticeEntry) (k : NoticeKind) (x : Subject) : Bool :=
  decide (e.kind = k) && decide (e.subject = x) && decide (e.condition = .pending)

/-- An entry is SENT. -/
def NoticeEntry.isSent (e : NoticeEntry) : Bool :=
  match e.condition with
  | .sent _ _ => true
  | .pending => false

/-- An entry in the overflow place: the one kind OVERFLOW entry (R152). -/
def NoticeEntry.inOverflowPlace (e : NoticeEntry) : Bool := decide (e.kind = .overflow)

/-- Repeat counts and send counts saturate at 255 (Table 9-2). -/
def saturate (n : Nat) : Nat := min n 255

/-- Change the first element of a list that has a property. -/
def updateFirst {α : Type} (p : α → Bool) (g : α → α) : List α → List α
  | [] => []
  | x :: xs => if p x then g x :: xs else x :: updateFirst p g xs

/-- The first number, counting upward from `n` and wrapping from 255 to 0, that no entry holds (R153). At most 17
entries hold a number, so 256 tries are more than enough. -/
def freeNumber (es : List NoticeEntry) : Nat → Byte → Byte
  | 0, n => n
  | fuel + 1, n => if es.any (fun e => e.number == n) then freeNumber es fuel (n + 1) else n

/-- The number the next entry is given (R153). -/
def NoticeUnit.giveNumber (n : NoticeUnit) : Byte := freeNumber n.entries 256 n.nextNumber

/-- Append a new PENDING entry with the next notice number (R153). -/
def NoticeUnit.append (n : NoticeUnit) (r : Raise) : NoticeUnit :=
  { n with
    entries := n.entries ++
      [{ number := n.giveNumber, kind := r.kind, subject := r.subject, detail := r.detail, repeats := 0,
         condition := .pending, sendCount := 0, fixedDest := r.dest }]
    nextNumber := n.giveNumber + 1 }

/-- A raise coalesces into a PENDING entry (R153). -/
def NoticeEntry.coalesce (r : Raise) (e : NoticeEntry) : NoticeEntry :=
  { e with detail := r.detail, repeats := saturate (e.repeats + 1), fixedDest := r.dest }

/-- A raise lost to a full list (R154): the overflow flag, and the OVERFLOW entry as the overflow place and the mask
allow. -/
def NoticeUnit.lose (n : NoticeUnit) : NoticeUnit :=
  let n := { n with overflow := true }
  match n.entries.find? NoticeEntry.inOverflowPlace with
  | some e =>
    if e.isSent then n
    else
      { n with
        entries := updateFirst NoticeEntry.inOverflowPlace (fun e => { e with repeats := saturate (e.repeats + 1) })
          n.entries }
  | none =>
    if n.mask.getLsbD (noticeCode .overflow) then
      n.append { kind := .overflow, subject := .none, detail := 0, dest := none }
    else n

/-- What the Notice Unit does with a raise (R151, R153, R154). The overflow place is no part of the 16 entries. -/
def NoticeUnit.take (n : NoticeUnit) (r : Raise) : NoticeUnit :=
  if n.mask.getLsbD (noticeCode r.kind) then
    if n.entries.any (fun e => e.pendingOf r.kind r.subject) then
      { n with entries := updateFirst (fun e => e.pendingOf r.kind r.subject) (NoticeEntry.coalesce r) n.entries }
    else if (n.entries.filter (fun e => !e.inOverflowPlace)).length < 16 then n.append r
    else n.lose
  else n

/-- Make one raise (R150: it is handled within the event that causes it). -/
def State.raise (s : State) (r : Raise) : State := s.withNotice (s.notice.take r)

/-- Make raises one after another. -/
def State.raiseAll (s : State) (rs : List Raise) : State := rs.foldl State.raise s

/-- Make the raises of several flows, each flow's own in their order; the order of the flows is open (log entry 3).
Raises of kinds the mask has off do nothing (R151) and take no place in the order. -/
def State.raiseOpen (s : State) (batches : List (List Raise)) : State :=
  let live := (batches.map (fun b => b.filter (fun r => s.maskOn r.kind))).filter (fun b => !b.isEmpty)
  ((s.openOrder live).foldl State.raiseAll (s.orderTaken live))

/-- The raise of FLOW_STATE for a flow (R79, Table 11-7). -/
def flowStateRaise (f : FlowIx) (x : FlowState) : Raise :=
  { kind := .flowState, subject := .flow f, detail := stateCode x, dest := none }

/-- The raise of a kind with a detail and no subject (Table 9-1). -/
def plainRaise (k : NoticeKind) (detail : Byte) : Raise := { kind := k, subject := .none, detail := detail, dest := none }

/-! ### Counting (R162, R163) -/

/-- The COUNTER_WRAP raise an increase of the counter would make (R163). -/
def State.wrapRaises (s : State) (f : FlowIx) (c : Counter) : List Raise :=
  if (s.flow f).counter c = 65535 then
    [{ kind := .counterWrap, subject := .flow f, detail := c.id, dest := none }]
  else []

/-- Increase a per-flow counter by 1, with its COUNTER_WRAP where it wraps (R163). -/
def State.count (s : State) (f : FlowIx) (c : Counter) : State :=
  (s.setFlow f ((s.flow f).bump c)).raiseAll (s.wrapRaises f c)

/-- Increase a per-flow counter once for each of `n` blocks (R42). -/
def State.countTimes (s : State) (f : FlowIx) (c : Counter) : Nat → State
  | 0 => s
  | n + 1 => (s.count f c).countTimes f c n

/-! ### The Block Pool (R48, R49, R53, R54) -/

/-- Take one buffer for flow `f`: one off the free list, held count up by one, and the pool-low examination (R48,
R53). -/
def State.takeBuffer (s : State) (f : FlowIx) : State :=
  let s := s.setFlow f { s.flow f with held := (s.flow f).held + 1 }
  let free := s.pool.free - 1
  if s.pool.armed && decide (free < s.pool.threshold) then
    (s.withPool { s.pool with free := free, armed := false }).raise (plainRaise .poolLow 0)
  else s.withPool { s.pool with free := free }

/-- Give back `n` buffers of flow `f`: held count down, free count up, and the re-arming examination (R49, R54). The
free count only rises while they are given back one by one, so the examination after the last decides. -/
def State.giveBack (s : State) (f : FlowIx) (n : Nat) : State :=
  if n = 0 then s
  else
    let s := s.setFlow f { s.flow f with held := (s.flow f).held - n }
    let free := s.pool.free + n
    s.withPool { s.pool with free := free, armed := s.pool.armed || decide (s.pool.threshold + 8 ≤ free) }

/-! ### Windows -/

/-- An empty row of entries. -/
def noEntries : Vector Entry 32 := Vector.replicate 32 .empty

/-- The row after the head has moved forward by one, in a window of this depth (R36). -/
def Window.advanced (w : Window) (depth : Nat) : Window :=
  { head := w.head + 1
    entries := Vector.ofFn fun k : Fin 32 => if k.val + 1 < depth then w.entryAt (k.val + 1) else .empty }

/-- The window with another entry at offset `k`. -/
def Window.withEntry (w : Window) (k : Nat) (e : Entry) : Window :=
  { w with entries := Vector.ofFn fun j : Fin 32 => if j.val = k then e else w.entryAt j.val }

/-- The window after its head has moved back by `n` to take in block `b` (R31). -/
def Window.rebased (w : Window) (depth n : Nat) (b : Block) : Window :=
  { head := b.seq
    entries := Vector.ofFn fun k : Fin 32 =>
      if k.val = 0 then .held b
      else if n ≤ k.val ∧ k.val < depth then w.entryAt (k.val - n)
      else .empty }

/-- An entry as a re-base moves it: only HELD entries are moved (R39). -/
def Entry.onlyHeld : Entry → Entry
  | .held b => .held b
  | .empty => .empty
  | .spent => .empty

/-- The window re-based to head `h` for an aligned join (R39): the HELD entry at offset k moves to k − e. -/
def Window.joined (w : Window) (depth : Nat) (h : Half) : Window :=
  let e := seqOffset h w.head
  { head := h
    entries := Vector.ofFn fun k : Fin 32 =>
      let from' : Int := (k.val : Int) + e
      if k.val < depth ∧ 0 ≤ from' then (w.entryAt from'.toNat).onlyHeld else .empty }

/-- How many HELD entries a re-base by `e` leaves behind the new head (R39 step 3). -/
def Window.leftBehind (w : Window) (e : Int) : Nat :=
  ((List.range 32).filter fun k => (w.entryAt k).isHeld && decide ((k : Int) - e < 0)).length

/-- How many HELD entries a re-base by `e` pushes past the window (R39 step 4). -/
def Window.pushedPast (w : Window) (depth : Nat) (e : Int) : Nat :=
  ((List.range 32).filter fun k => (w.entryAt k).isHeld && decide ((depth : Int) - 1 < (k : Int) - e)).length

/-- Flush a flow's window: every buffer given back, every entry EMPTY, the head kept, nothing counted (R40). -/
def State.flush (s : State) (f : FlowIx) : State :=
  let n := (s.flow f).held
  (s.setWindow f { (s.flow f).window with entries := noEntries }).giveBack f n

/-- Release entry 0's buffer if it is HELD, and advance the head (R36, R37). -/
def State.advance (s : State) (f : FlowIx) : State :=
  let w := (s.flow f).window
  let n := if (w.entryAt 0).isHeld then 1 else 0
  (s.setWindow f (w.advanced (s.flow f).record.depth)).giveBack f n

/-- Mark entry 0 SPENT, giving back the buffer it holds if it holds one: "mark spent" and "discard head" (R37). -/
def State.spendHead (s : State) (f : FlowIx) : State :=
  let w := (s.flow f).window
  let n := if (w.entryAt 0).isHeld then 1 else 0
  (s.setWindow f (w.withEntry 0 .spent)).giveBack f n

/-! ### Entries into flow states (Table 4-4, R60) -/

/-- Entry into DISABLED or IDLE (Table 4-4: the same values). -/
def Runtime.cleared (x : FlowState) : Runtime := { Runtime.reset with state := x }

/-- Entry into PRIMING by a start or by a jump (Table 4-4). -/
def Runtime.primed : Runtime := { Runtime.reset with state := .priming, silence := some 0 }

/-- Entry into PRIMING by REPRIME (Table 4-4). -/
def Runtime.repriming (r : Runtime) : Runtime :=
  { Runtime.reset with state := .priming, silence := r.silence, late := r.late }

/-- Entry into READY (Table 4-4: everything kept). -/
def Runtime.toReady (r : Runtime) : Runtime := { r with state := .ready }

/-- Entry into PLAYING with a head block of this length (Table 4-4). -/
def Runtime.toPlaying (r : Runtime) (length : Nat) : Runtime :=
  { r with state := .playing, readIndex := 0, blockLen := some length, holdCount := 0, fadeStage := 0 }

/-- A concealment block begins: the `k`-th of its episode (R67, R69, R71, Table 4-4). -/
def Runtime.toHolding (r : Runtime) (rec : FlowRecord) (k : Nat) : Runtime :=
  { r with state := .holding, readIndex := 0, blockLen := some (concealLength rec r.lastLen), holdCount := k,
           fadeStage := fadeStageFor rec k }

/-- Entry into CUT (Table 4-4: the late flag is kept). -/
def Runtime.toCut (r : Runtime) : Runtime := { Runtime.reset with state := .cut, late := r.late }

/-- Entry into DRAINING (Table 4-4, R76). -/
def Runtime.toDraining (r : Runtime) (m : DrainMode) : Runtime :=
  { r with state := .draining m, silence := none, drain := some 0 }

/-- The length of the block in entry 0. Where entry 0 is not HELD, which R24 and R61 rule out, the concealment length
of a full block. -/
def Flow.headLength (fl : Flow) : Nat :=
  match fl.window.entryAt 0 with
  | .held b => b.length
  | _ => 12

/-! ### Groups (R82) -/

/-- A group FORMING or RUNNING with its runtime values cleared (R82, R84). -/
def Group.cleared (g : Group) (x : GroupState) : Group := { g with state := x, debt := 0, count := 0, slipDone := false }

/-- A RUNNING group of which no member is PLAYING or HOLDING becomes FORMING (R82). -/
def State.settleGroup (s : State) (g : GroupIx) : State :=
  if (s.group g).state = .running ∧ (allFlows.any (s.candidate g)) = false then
    s.setGroup g ((s.group g).cleared .forming)
  else s

/-- The same for the group a flow's record names, after a change of that flow's state (R82). -/
def State.settleGroupOf (s : State) (f : FlowIx) : State :=
  match (s.flow f).record.group with
  | some g => s.settleGroup g
  | none => s

/-- Cut a flow: flush, record as on entry into CUT, FLOW_STATE(CUT) raised (R72), and its group settled (R82). -/
def State.cutFlow (s : State) (f : FlowIx) : State :=
  let s := s.flush f
  let s := s.setRt f (s.flow f).rt.toCut
  (s.raise (flowStateRaise f .cut)).settleGroupOf f

/-- Flush a flow and set it to IDLE or DISABLED (R76, R78), and its group settled (R82). -/
def State.stopFlow (s : State) (f : FlowIx) (x : FlowState) : State :=
  let s := s.flush f
  (s.setRt f (.cleared x)).settleGroupOf f

/-! ### Answers (R119, R132, R134) -/

/-- The answer to a command (R133). -/
def answerTo (c : QueuedCommand) (status : Status) (detail : Byte) (data : List Byte) : Answer :=
  { dest := c.origin, tag := c.tag, code := c.code, status := status, detail := detail, data := data }

/-- Append an answer to the answer queue (R119). -/
def State.appendAnswer (s : State) (a : Answer) : State := s.withRing { s.ring with answers := s.ring.answers ++ [a] }

/-- The cache after an answer is stored: at the back, the oldest of 4 removed to make room (R134). -/
def storeAnswer (cache : List Answer) (a : Answer) : List Answer :=
  (if 4 ≤ cache.length then cache.drop 1 else cache) ++ [a]

/-- Complete the command in execution, the oldest of the queue: its answer is appended and stored, and it leaves the
queue (R132). -/
def State.complete (s : State) (c : QueuedCommand) (status : Status) (detail : Byte) (data : List Byte) : State :=
  let a := answerTo c status detail data
  let s := s.appendAnswer a
  s.withMgmt { s.mgmt with queue := s.mgmt.queue.drop 1, deferred := none, cache := storeAnswer s.mgmt.cache a }

/-! ### The end of a drain (R77) -/

/-- The deferred FLOW_DISABLE of flow `f` is answered DONE (R77, R142): detail 0 NORMAL, 1 FORCED. -/
def State.answerDrain (s : State) (f : FlowIx) (forced : Bool) : State :=
  match s.mgmt.queue with
  | c :: _ => if s.mgmt.deferred = some f then s.complete c .done (flagByte forced) [] else s
  | [] => s

/-- The end of a flow's drain other than by its own count of PLAYED: flush, DISABLED, the deferred answer (R77). -/
def State.endDrain (s : State) (f : FlowIx) (forced : Bool) : State :=
  let s := s.flush f
  (s.setRt f (.cleared .disabled)).answerDrain f forced

/-- End the drain of every DRAINING flow (R77, R99); at most one drains at a time (R143). -/
def State.endDrains (s : State) : State :=
  (allFlows.filter (fun f => (s.flow f).rt.state.isDraining)).foldl (fun s f => s.endDrain f false) s

/-! ### Emission (R118, R119, R120) -/

/-- A frame is sent on ring-out. -/
def State.emit (s : State) (frame : List Byte) : State := s.withRing { s.ring with ringOut := some frame }

/-- An insertion opportunity (R118): the oldest answer, else the offered notice, else FILL; FILL while unassigned. -/
def State.insertFrame (s : State) : State :=
  if s.assigned then
    match s.ring.answers with
    | a :: rest => (s.withRing { s.ring with answers := rest }).emit (answerFrame s.ring.own a)
    | [] =>
      match s.notice.offer with
      | some o => (s.withNotice { s.notice with offer := none }).emit (noticeFrame s.ring.own o)
      | none => s.emit (fillFrame s.ring.own)
  else s.emit (fillFrame s.ring.own)

end Sys2Proof.Machine
end

