-- ==== Sys2Proof/Machine/Execution.lean ====
section
/-! DEFINITION. The execution of a queued command: which command is executed, the reload of the lease and the common
checks (R132, R135, R136), and the read commands (R139, R166 to R168). -/

namespace Sys2Proof.Machine

open Host (Outcome)

/-- The reload of the lease at the start of an execution whose origin is the holder (R136). -/
def State.reloadLease (s : State) (c : QueuedCommand) : State :=
  if s.mgmt.claim.holder = some c.origin then
    s.withMgmt { s.mgmt with claim := { s.mgmt.claim with lease := s.mgmt.claim.length } }
  else s

/-- A refusal: an answer without data, nothing changed (R135, R148). -/
def State.refuse (s : State) (c : QueuedCommand) (status : Status) (detail : Byte) : State := s.complete c status detail []

/-- Completion with DONE, detail 0, no data (R148). -/
def State.succeed (s : State) (c : QueuedCommand) : State := s.complete c .done 0 []

/-- The claim check (R135 common check 3). -/
def State.holds (s : State) (c : QueuedCommand) : Bool := s.mgmt.claim.holder == some c.origin

/-- Refusal by the claim check: the detail is the holder's address, or 63 (R135). -/
def State.refuseNotHolder (s : State) (c : QueuedCommand) : State := s.refuse c .notHolder (holderByte s.mgmt.claim.holder)

/-- The execution of the oldest queued command if `isIt` says it is the one the event names and no execution is in
progress (R132; log entry 8): lease reload (R136), parameter length and claim (R135 common checks 2 and 3), then its own
checks and effect. -/
def State.execute (s : State) (isIt : QueuedCommand → Bool) (length : Nat) (needsClaim : Bool)
    (own : QueuedCommand → State → State) : State :=
  match s.mgmt.deferred, s.mgmt.queue with
  | none, c :: _ =>
    if isIt c then
      let s := s.reloadLease c
      if c.length ≠ length then s.refuse c .invalidField 0
      else if needsClaim && !s.holds c then s.refuseNotHolder c
      else own c s
    else s
  | _, _ => s

/-- The command carries this command code (Table 11-5). -/
def hasCode (code : Byte) (c : QueuedCommand) : Bool := c.code == code

/-- Parameter byte `i`. -/
def QueuedCommand.param (c : QueuedCommand) (i : Nat) : Byte := byteAt c.params i

/-- The flow a command is addressed to: its parameter byte 0, refused with BAD_INDEX, detail 0, outside 0 to 47 (R139,
R141, R142, R144). -/
def State.withFlow (s : State) (c : QueuedCommand) (own : FlowIx → State) : State :=
  match byteFlow (c.param 0) with
  | some f => own f
  | none => s.refuse c .badIndex 0

/-! ### STATUS_GET (R166) -/

/-- The receive state code (Table 11-9). -/
def rxCode : RxState → Byte
  | .down => 0
  | .acquiring => 1
  | .up => 2

/-- The unit counters in the order of Table 10-3. -/
def State.unitCounters (s : State) : List LongWord :=
  [s.ring.headerErrors, s.ring.orphans, s.mgmt.crcErrors, s.mgmt.lost, s.mgmt.absorbed, s.notice.lost,
    s.notice.acksIgnored]

/-- The STATUS_GET data (Table 11-9, R166). -/
def State.statusData (s : State) : List Byte :=
  [addrByte s.ring.own, rxCode s.ring.rx, flagByte (s.lane.status == .present), holderByte s.mgmt.claim.holder] ++
    natHalfBytes s.mgmt.claim.lease ++ natHalfBytes s.pool.free ++ natHalfBytes s.outstanding ++
    [flagByte s.notice.overflow, natByte s.mgmt.queue.length] ++ s.unitCounters.flatMap longBytes ++
    halfBytes Config.partIdentity ++ [Config.revision]

/-- STATUS_GET (R139, R166). -/
def execStatusGet (s : State) : Outcome State Fault Refusal :=
  .next (s.execute (hasCode 0x01) 0 false fun c s => s.complete c .done 0 s.statusData)

/-! ### FLOW_GET (R167) -/

/-- The FLOW_GET data of a flow (Table 10-5, Table 11-4). The fill is the flow's held count (R44). -/
def Flow.summary (fl : Flow) : List Byte :=
  recordBytes fl.record ++ [stateCode fl.rt.state] ++ halfBytes fl.window.head ++
    [natByte fl.held, natByte fl.window.contiguous, natByte fl.rt.readIndex, natByte fl.rt.holdCount,
      flagByte fl.rt.late, flagByte fl.window.headCrcBad]

/-- FLOW_GET (R139, R167). -/
def execFlowGet (s : State) : Outcome State Fault Refusal :=
  .next (s.execute (hasCode 0x03) 1 false fun c s =>
    s.withFlow c fun f => s.complete c .done 0 (s.flow f).summary)

/-! ### GROUP_GET (R168) -/

/-- The GROUP_GET data of a group (Table 10-6, Table 11-4). -/
def State.groupData (s : State) (g : GroupIx) : List Byte :=
  let gr := s.group g
  let members := s.members g
  [flagByte (gr.state == .running), flowByte gr.pilot, natByte gr.target, natByte gr.hysteresis, natByte gr.interval,
    (BitVec.ofInt 8 gr.debt), natByte gr.count, flagByte gr.slipDone, flowByte (s.reference g),
    natByte members.length] ++ members.map (fun f => natByte f.val)

/-- GROUP_GET (R139, R168). -/
def execGroupGet (s : State) : Outcome State Fault Refusal :=
  .next (s.execute (hasCode 0x08) 1 false fun c s =>
    match byteGroup (c.param 0) with
    | some g => s.complete c .done 0 (s.groupData g)
    | none => s.refuse c .badIndex 0)

/-! ### MAP_GET (R106) -/

/-- The 16 entries of a lane, in position order. -/
def State.laneEntries (s : State) (l : Fin 4) : List MapEntry :=
  (List.finRange 16).map fun p => s.lane.map[l.val * 16 + p.val]

/-- The MAP_GET data of a lane (R106, Table 11-4). -/
def State.mapData (s : State) (l : Fin 4) : List Byte :=
  [flagByte (s.lane.lanes[l.val]).enable, flagByte (s.lane.lanes[l.val]).mute] ++
    (s.laneEntries l).flatMap mapEntryBytes

/-- A byte that names a lane: 0 to 3. -/
def byteLane (b : Byte) : Option (Fin 4) := if h : b.toNat < 4 then some ⟨b.toNat, h⟩ else none

/-- MAP_GET (R106, R139). -/
def execMapGet (s : State) : Outcome State Fault Refusal :=
  .next (s.execute (hasCode 0x0A) 1 false fun c s =>
    match byteLane (c.param 0) with
    | some l => s.complete c .done 0 (s.mapData l)
    | none => s.refuse c .badIndex 0)

/-! ### UNKNOWN_COMMAND (R135) -/

/-- A code that names none of the commands of Table 8-2 (Table 11-5: 01h to 11h are named). -/
def unknownCode (c : QueuedCommand) : Bool := decide (c.code.toNat = 0 ∨ 0x11 < c.code.toNat)

/-- UNKNOWN_COMMAND (R135 common check 1): whatever its length, after the reload of the lease (R136). -/
def execUnknownCommand (s : State) : Outcome State Fault Refusal :=
  .next (match s.mgmt.deferred, s.mgmt.queue with
    | none, c :: _ => if unknownCode c then (s.reloadLease c).refuse c .unknownCommand 0 else s
    | _, _ => s)

end Sys2Proof.Machine
end

