-- ==== Sys2Proof/Machine/FlowCommands.lean ====
section
/-! DEFINITION. The commands that write flows: FLOW_SET, FLOW_ENABLE, FLOW_DISABLE, FLOW_RESTART, COUNTERS_GET
(Sections 1.1.5, 1.3, 4.8, 8.5, 8.6). -/

namespace Sys2Proof.Machine

open Host (Outcome)

/-- FLOW_SET's own checks and effect (R7): the flow DISABLED, then the record field by field, then the record stored and
the counters cleared. -/
def State.setFlowRecord (s : State) (c : QueuedCommand) (f : FlowIx) : State :=
  let fl := s.flow f
  let bytes := c.params.drop 1
  if fl.rt.state ≠ .disabled then s.refuse c .badState (stateCode fl.rt.state)
  else
    match recordFault bytes with
    | some id => s.refuse c .invalidField (natByte id)
    | none => (s.setFlow f { fl.clearCounters with record := parseRecord bytes }).succeed c

/-- FLOW_SET (R7, R141). -/
def execFlowSet (s : State) : Outcome State Fault Refusal :=
  .next (s.execute (hasCode 0x02) 19 true fun c s => s.withFlow c (s.setFlowRecord c))

/-- The flows that hold a group's block mode: its enabled and DRAINING flows (R18). -/
def State.constrains (s : State) (g : GroupIx) (f : FlowIx) : Bool :=
  (s.flow f).rt.state.matchable && ((s.flow f).record.group == some g)

/-- The group constraint of FLOW_ENABLE (R18): the detail of a GROUP_MISMATCH, or none where it holds. -/
def State.groupMismatch (s : State) (f : FlowIx) : Option Byte :=
  let r := (s.flow f).record
  match r.group with
  | none => none
  | some g =>
    if r.mode = .perFrame then some 255
    else
      (allFlows.find? (fun x => s.constrains g x && !((s.flow x).record.mode == r.mode))).map (fun x => natByte x.val)

/-- FLOW_ENABLE's five checks, in the order of Table 1-4, and its effect (R16 to R20). -/
def State.enableFlow (s : State) (c : QueuedCommand) (f : FlowIx) : State :=
  let fl := s.flow f
  if fl.rt.state ≠ .disabled then s.refuse c .badState (stateCode fl.rt.state)
  else if fl.record.tag = 0 then s.refuse c .invalidField 1
  else
    match s.holderOfTag fl.record.tag with
    | some other => s.refuse c .tagInUse (natByte other.val)
    | none =>
      match s.groupMismatch f with
      | some detail => s.refuse c .groupMismatch detail
      | none =>
        if s.sharedFree < fl.record.prime then s.refuse c .noReservation (natByte s.sharedFree)
        else (s.setRt f (.cleared .idle)).succeed c

/-- FLOW_ENABLE (R16 to R20, R141). -/
def execFlowEnable (s : State) : Outcome State Fault Refusal :=
  .next (s.execute (hasCode 0x04) 1 true fun c s => s.withFlow c (s.enableFlow c))

/-- The start of a drain (R76): DRAINING, silence timer stopped, drain timer at 0; the command stays in execution
(R142), and the group is settled (R82). -/
def State.startDrain (s : State) (f : FlowIx) (m : DrainMode) : State :=
  let s := (s.setRt f ((s.flow f).rt.toDraining m)).settleGroupOf f
  s.withMgmt { s.mgmt with deferred := some f }

/-- FLOW_DISABLE's effect by the flow's state and the lane clock status (R76, R142). A flow found DRAINING, which R143
rules out, is answered as the table answers a flow that is no longer playing. -/
def State.disableFlow (s : State) (c : QueuedCommand) (f : FlowIx) : State :=
  match (s.flow f).rt.state, s.lane.status with
  | .disabled, _ => s.succeed c
  | .playing, .present => s.startDrain f .playing
  | .holding, .present => s.startDrain f .holding
  | _, _ => (s.stopFlow f .disabled).succeed c

/-- FLOW_DISABLE (R76, R142). -/
def execFlowDisable (s : State) : Outcome State Fault Refusal :=
  .next (s.execute (hasCode 0x05) 1 true fun c s => s.withFlow c (s.disableFlow c))

/-- FLOW_RESTART's own check and effect (R78, R144). -/
def State.restartFlow (s : State) (c : QueuedCommand) (f : FlowIx) : State :=
  if (s.flow f).rt.state.enabled then (s.stopFlow f .idle).succeed c
  else s.refuse c .badState (stateCode (s.flow f).rt.state)

/-- FLOW_RESTART (R78, R144). -/
def execFlowRestart (s : State) : Outcome State Fault Refusal :=
  .next (s.execute (hasCode 0x06) 1 true fun c s => s.withFlow c (s.restartFlow c))

/-- The twelve counters in id order, 2 bytes each (Table 11-4). -/
def Flow.counterBytes (fl : Flow) : List Byte := fl.counters.toList.flatMap halfBytes

/-- COUNTERS_GET's own checks, in the order R140 gives, and its effect (R140, R164). -/
def State.getCounters (s : State) (c : QueuedCommand) : State :=
  if !isBit (c.param 1) then s.refuse c .invalidField 1
  else if c.param 1 = 1 ∧ s.holds c = false then s.refuseNotHolder c
  else
    s.withFlow c fun f =>
      let data := (s.flow f).counterBytes
      let s := if c.param 1 = 1 then s.setFlow f (s.flow f).clearCounters else s
      s.complete c .done 0 data

/-- COUNTERS_GET (R140). -/
def execCountersGet (s : State) : Outcome State Fault Refusal :=
  .next (s.execute (hasCode 0x0C) 2 false fun c s => s.getCounters c)

end Sys2Proof.Machine
end

