-- ==== Sys2Proof/Machine/Window.lean ====
section
/-! DEFINITION. Stream Match and the placement of an arrival (Sections 1.2 and 2.3). -/

namespace Sys2Proof.Machine

/-- The effects of every accepted arrival (R35): ACCEPTED counted, silence timer restarted, late flag cleared. -/
def State.accept (s : State) (f : FlowIx) : State :=
  let s := s.count f .accepted
  s.setRt f { (s.flow f).rt with silence := some 0, late := false }

/-- After a granted placement a PRIMING flow whose contiguous fill reaches its prime depth becomes READY (R34). -/
def State.checkPrime (s : State) (f : FlowIx) : State :=
  let fl := s.flow f
  if fl.rt.state = .priming ∧ fl.record.prime ≤ fl.window.contiguous then s.setRt f fl.rt.toReady else s

/-- Place a block: its buffer taken, the window as the placement leaves it, the arrival accepted (R34, R35, R48). The
grant's POOL_LOW is raised before ACCEPTED's COUNTER_WRAP: the spec orders neither before the other, and this order is the
model's choice (log entry 21). -/
def State.place (s : State) (f : FlowIx) (w : Window) : State := ((s.takeBuffer f).setWindow f w).accept f

/-- A window that holds one block, at its head (R29, R32). -/
def Window.startingAt (b : Block) : Window :=
  { head := b.seq, entries := noEntries.set 0 (.held b) }

/-- A start: an arrival for a flow in IDLE or CUT (R29). The window is empty by R24, so the flush finds nothing; the
request is always granted (R48). -/
def State.start (s : State) (f : FlowIx) (b : Block) : State :=
  let s := s.flush f
  let s := s.setRt f .primed
  (s.place f (.startingAt b)).checkPrime f

/-- A jump (R32): flush, head set, buffer always granted (R48), JUMPS counted, PRIMING. -/
def State.jump (s : State) (f : FlowIx) (b : Block) : State :=
  let s := s.flush f
  let s := s.setRt f .primed
  let s := (s.place f (.startingAt b)).count f .jumps
  (s.settleGroupOf f).checkPrime f

/-- A placement whose buffer request may be refused (R31, R34): granted, the window is as given; refused, NO_BUFFER is
counted and nothing moves. -/
def State.tryPlace (s : State) (f : FlowIx) (w : Window) : State :=
  if s.grants f then (s.place f w).checkPrime f else s.count f .noBuffer

/-- Classification of an arrival for a flow in PRIMING, READY, PLAYING or HOLDING: the first case of Table 2-2 that
holds (R30 to R34). -/
def State.classify (s : State) (f : FlowIx) (b : Block) : State :=
  let fl := s.flow f
  let w := fl.window
  let d := seqOffset b.seq w.head
  if jumps d then s.jump f b
  else if rebases fl d then s.tryPlace f (w.rebased fl.record.depth (-d).toNat b)
  else if d ≤ -1 then s.count f .late
  else if d = 0 ∧ w.entryAt 0 = .spent then s.count f .late
  else if liesBeyond fl.record.depth d then s.count f .beyond
  else if (w.entryAt d.toNat).isHeld then s.count f .duplicate
  else s.tryPlace f (w.withEntry d.toNat (.held b))

/-- Placement of an arrival by the flow's state (R28). -/
def State.arrive (s : State) (f : FlowIx) (b : Block) : State :=
  match (s.flow f).rt.state with
  | .idle | .cut => s.start f b
  | .priming | .ready | .playing | .holding => s.classify f b
  | .disabled | .draining _ => s

/-- The format check (R12, Table 1-2). -/
def formatPasses (r : FlowRecord) (bs : List Byte) : Bool :=
  (sampleChannels bs == r.channels) &&
    (match r.mode with
      | .fixedFull => !halfFlag bs
      | .fixedHalf => halfFlag bs
      | .perFrame => true)

/-- A SAMPLE frame matched to a flow (R11 to R14). -/
def State.matched (s : State) (f : FlowIx) (bs : List Byte) : State :=
  let r := (s.flow f).record
  if (s.flow f).rt.state.isDraining then s
  else if formatPasses r bs then
    if bodyGood bs then s.arrive f (sampleBlock bs false)
    else
      let s := s.count f .crcErrors
      match r.crc with
      | .discard => s
      | .keep => s.arrive f (sampleBlock bs true)
  else s.count f .formatErrors

end Sys2Proof.Machine
end

