-- ==== Sys2Proof/Machine/Ring.lean ====
section
/-! DEFINITION. The Ring Port (Section 7), the taking of commands (8.2) and acknowledgements (9.4): carrier events,
received frames, frames at the unit's own rate. -/

namespace Sys2Proof.Machine

open Host (Outcome)

/-! ### Receive synchronisation (R111, R112) -/

/-- The raise of RING_IN (Table 11-7). -/
def ringInRaise (up : Bool) : Raise := plainRaise .ringIn (flagByte up)

/-- Entry into DOWN; with the carrier present the carrier-present event is taken at once (R111, R112). -/
def RingPort.enterDown (r : RingPort) : RingPort :=
  if r.carrier then { r with rx := .acquiring, goodRun := 0, badRun := 0 }
  else { r with rx := .down, badRun := 0 }

/-- Carrier present: DOWN goes to ACQUIRING with run count 0; in ACQUIRING and UP nothing changes (R111). -/
def execCarrierPresent (s : State) : Outcome State Fault Refusal :=
  let r := { s.ring with carrier := true }
  .next (s.withRing (if r.rx = .down then { r with rx := .acquiring, goodRun := 0 } else r))

/-- Carrier loss (Table 7-2). -/
def execCarrierLoss (s : State) : Outcome State Fault Refusal :=
  let r := { s.ring with carrier := false }
  match s.ring.rx with
  | .down => .next (s.withRing r)
  | .acquiring => .next (s.withRing { r with rx := .down, goodRun := 0 })
  | .up => .next ((s.withRing { r with rx := .down, badRun := 0 }).raise (ringInRaise false))

/-! ### Address changes (R124, R160) -/

/-- Two entries report the same thing: one kind and subject (R152). -/
def NoticeEntry.sameMatter (x y : NoticeEntry) : Bool := decide (x.kind = y.kind) && decide (x.subject = y.subject)

/-- A PENDING entry after the SENT entry of its kind and subject, if there is one, has been merged into it; a SENT
entry returned to PENDING (R160 steps 2 and 3). -/
def NoticeEntry.returned (es : List NoticeEntry) (e : NoticeEntry) : NoticeEntry :=
  if e.isSent then { e with condition := .pending }
  else
    match es.find? (fun x => x.isSent && x.sameMatter e) with
    | some r => { e with repeats := saturate (e.repeats + r.repeats + 1) }
    | none => e

/-- Return the SENT entries of a list to PENDING; one whose kind and subject already have a PENDING entry is merged
into that entry and leaves the list (R160). -/
def returnSent (es : List NoticeEntry) : List NoticeEntry :=
  (es.filter (fun e => !(e.isSent && es.any (fun x => x.pendingOf e.kind e.subject)))).map (NoticeEntry.returned es)

/-- The Notice Unit's part of an address change (R160). -/
def NoticeUnit.addressChanged (n : NoticeUnit) : NoticeUnit :=
  { n with offer := none, entries := returnSent n.entries }

/-- The own address becomes `a`; a different address is an address change (R122, R123, R124). -/
def State.setAddress (s : State) (a : Addr) : State :=
  if s.ring.own = a then s
  else (s.withRing { s.ring with own := a }).withNotice s.notice.addressChanged

/-- A next-address field that can be handed out: 1 to 61 (R122, R123). -/
def handsOut (n : Byte) : Bool := decide (1 ≤ n.toNat ∧ n.toNat ≤ 61)

/-- A ROLLCALL frame (R121 to R123): the state after it and the frame to forward, before hop count and check. -/
def State.rollcall (s : State) (bs : List Byte) : State × List Byte :=
  let n := byteAt bs 5
  let count := halfAt bs 6
  if byteAt bs 4 = 1 then
    if handsOut n then (s.setAddress (byteAddr n), withRollcall bs (n + 1) (count + 1))
    else (s.setAddress 63, withRollcall bs n (count + 1))
  else if byteAt bs 4 = 2 then
    if !s.assigned && handsOut n then (s.setAddress (byteAddr n), withRollcall bs (n + 1) (count + 1))
    else (s, bs)
  else (s, bs)

/-! ### Taking a command (R127 to R130) and acknowledgements (R157) -/

/-- The offer without the frame of an entry that leaves the list. -/
def NoticeUnit.withdraw (n : NoticeUnit) (number : Byte) : NoticeUnit :=
  match n.offer with
  | some o => if o.number = number then { n with offer := none } else n
  | none => n

/-- An acknowledgement (R157). -/
def NoticeUnit.acknowledge (n : NoticeUnit) (number : Byte) : NoticeUnit :=
  match n.entries.find? (fun e => e.isSent && (e.number == number)) with
  | some e =>
    { n.withdraw number with
      entries := n.entries.filter (fun x => !(x.isSent && (x.number == number)))
      overflow := n.overflow && !e.inOverflowPlace }
  | none => { n with acksIgnored := n.acksIgnored + 1 }

/-- An answer of the cache under an origin and tag (R129, R134). -/
def cachedAnswer (cache : List Answer) (c : QueuedCommand) : Option Answer :=
  cache.find? (fun a => (a.dest == c.origin) && (a.tag == c.tag))

/-- A COMMANDS_LOST count (R149). -/
def State.loseCommand (s : State) : State := s.withMgmt { s.mgmt with lost := s.mgmt.lost + 1 }

/-- A new command, decided by the commands held and the answer room (R130). -/
def State.takeNew (s : State) (c : QueuedCommand) : State :=
  if s.answerRoom = 0 then s.loseCommand
  else if s.mgmt.queue.length < 4 then s.withMgmt { s.mgmt with queue := s.mgmt.queue ++ [c] }
  else s.appendAnswer (answerTo c .queueFull 0 [])

/-- A COMMAND frame the unit takes: the first of R127 to R130 that applies. -/
def State.takeCommand (s : State) (bs : List Byte) : State :=
  let c := frameCommand bs
  if !bodyGood bs then s.withMgmt { s.mgmt with crcErrors := s.mgmt.crcErrors + 1 }
  else if c.origin = 62 ∨ c.origin = 63 then s.loseCommand
  else if c.code = 0x11 then s.withNotice (s.notice.acknowledge (byteAt (frameBody bs) 0))
  else if s.mgmt.queue.any (fun q => (q.origin == c.origin) && (q.tag == c.tag)) then
    s.withMgmt { s.mgmt with absorbed := s.mgmt.absorbed + 1 }
  else
    match cachedAnswer s.mgmt.cache c with
    | some a => if s.answerRoom = 0 then s.loseCommand else s.appendAnswer a
    | none => s.takeNew c

/-! ### The decision for a received frame (R116) -/

/-- Table 7-3: what becomes of a frame with a good header received in UP. The hand-over is made within the decision,
before the place of a stripped frame is used for insertion (R116; log entry 7). -/
def State.decideFrame (s : State) (bs : List Byte) : State :=
  if kindCode bs = 0 then s.insertFrame
  else if s.assigned ∧ frameOrigin bs = s.ring.own then s.insertFrame
  else if hopCount bs = 63 then (s.withRing { s.ring with orphans := s.ring.orphans + 1 }).insertFrame
  else if kindCode bs = 1 then
    match s.holderOfTag (sampleTag bs) with
    | some f =>
      match (s.flow f).record.tap with
      | .take => (s.matched f bs).insertFrame
      | .tap => (s.matched f bs).emit (forwardFrame bs)
    | none => s.emit (forwardFrame bs)
  else if kindCode bs = 2 ∧ s.assigned ∧ frameDest bs = s.ring.own then (s.takeCommand bs).insertFrame
  else if kindCode bs = 2 ∧ s.assigned ∧ frameDest bs = 62 then (s.takeCommand bs).emit (forwardFrame bs)
  else if kindCode bs = 5 then (s.rollcall bs).1.emit (forwardFrame (s.rollcall bs).2)
  else s.emit (forwardFrame bs)

/-- A frame received in ACQUIRING (Table 7-2): not processed, not forwarded. -/
def State.acquire (s : State) (bs : List Byte) : State :=
  if goodHeader bs then
    if s.ring.goodRun < 7 then s.withRing { s.ring with goodRun := s.ring.goodRun + 1 }
    else (s.withRing { s.ring with rx := .up, goodRun := 0, badRun := 0 }).raise (ringInRaise true)
  else s.withRing { s.ring with goodRun := 0, alignment := (s.ring.alignment + 1) % 308 }

/-- A frame with a bad header received in UP (Table 7-2): counted, FILL in its place; the fourth in a row leaves UP. -/
def State.badHeader (s : State) : State :=
  let s := (s.withRing { s.ring with headerErrors := s.ring.headerErrors + 1 }).emit (fillFrame s.ring.own)
  if s.ring.badRun < 3 then s.withRing { s.ring with badRun := s.ring.badRun + 1 }
  else (s.withRing s.ring.enterDown).raise (ringInRaise false)

/-- FRAME_RECEIVED (R111, R113, R114, R116). Bytes that are not 308 are no frame and are not processed (R108; log
entry 2). -/
def execFrameReceived (bytes : List Byte) (s : State) : Outcome State Fault Refusal :=
  if bytes.length ≠ 308 then .next s
  else
    match s.ring.rx with
    | .down => .next s
    | .acquiring => .next (s.acquire bytes)
    | .up =>
      if goodHeader bytes then .next ((s.withRing { s.ring with badRun := 0 }).decideFrame bytes)
      else .next s.badHeader

/-- OWN_RATE_FRAME (R115): in DOWN and ACQUIRING ring-out emits a frame, each an insertion opportunity. In UP ring-out
repeats ring-in (R114) and there is no such frame. -/
def execOwnRateFrame (s : State) : Outcome State Fault Refusal :=
  if s.ring.rx = .up then .next s else .next s.insertFrame

end Sys2Proof.Machine
end

