-- ==== Sys2Proof/Machine/Resets.lean ====
section
/-! DEFINITION. Pin reset and the three scopes of UNIT_RESET (R8, R27, R56, R58, R95, R101, R107, R112, R119, R125, R126,
R134, R136, R146, R147, R149, R161, R164). -/

namespace Sys2Proof.Machine

open Host (Outcome)

/-- PIN_RESET: every block at its pin-reset values; nothing is answered. The carrier level is the line's and stays, and
if it is present the carrier-present event is taken at once (R112; log entry 9). The commands that wait for the unit
and the count of open orders are not the unit's and stay (log entries 1 and 3). -/
def execPinReset (s : State) : Outcome State Fault Refusal :=
  .next { State.reset with
    ring := RingPort.enterDown { RingPort.reset with carrier := s.ring.carrier }
    choices := s.choices
    pending := s.pending }

/-- All unit counters at 0 (R165). -/
def State.clearUnitCounters (s : State) : State :=
  let s := s.withRing { s.ring with headerErrors := 0, orphans := 0 }
  let s := s.withMgmt { s.mgmt with crcErrors := 0, lost := 0, absorbed := 0 }
  s.withNotice { s.notice with lost := 0, acksIgnored := 0 }

/-- Every per-flow counter at 0 (R164). -/
def State.clearFlowCounters (s : State) : State :=
  { s with flows := Vector.ofFn fun f : FlowIx => (s.flow f).clearCounters }

/-- Scope COUNTERS (Table 8-3). -/
def State.resetCounters (s : State) : State := s.clearFlowCounters.clearUnitCounters

/-- One flow at a UNIT_RESET PLAYOUT: its window flushed (Table 3-2), an enabled flow set to IDLE (R58). -/
def State.idleFlow (s : State) (f : FlowIx) : State :=
  let t := s.flush f
  if (s.flow f).rt.state.enabled then t.setRt f (.cleared .idle) else t

/-- Scope PLAYOUT (Table 8-3): every enabled flow flushed to IDLE, every buffer free, the monitor armed (R56), every group
FORMING (R95). -/
def State.resetPlayout (s : State) : State :=
  let s := allFlows.foldl State.idleFlow s
  let s := s.withPool { s.pool with armed := true }
  { s with groups := Vector.ofFn fun g : GroupIx => (s.group g).cleared .forming }

/-- Scope CONFIG (Table 8-3): PLAYOUT, then every flow DISABLED with the default record, and every table at its
defaults; the windows' heads (R27), the number counter (Table 9-3), the own address, receive synchronisation, answer
queue, lane clock and command queue are kept (R146). -/
def State.resetConfig (s : State) : State :=
  let s := s.resetPlayout
  let s := { s with
    flows := Vector.ofFn fun f : FlowIx =>
      { (s.flow f).clearCounters with record := .default, rt := .cleared .disabled } }
  let s := s.clearUnitCounters
  let s := s.withPool { s.pool with threshold := 0, armed := true }
  let s := { s with groups := Vector.replicate 8 .reset }
  let s := s.withLane { s.lane with map := LaneUnit.reset.map, lanes := LaneUnit.reset.lanes }
  let s := s.withMgmt { s.mgmt with claim := Mgmt.reset.claim, cache := [] }
  s.withNotice { NoticeUnit.reset with nextNumber := s.notice.nextNumber }

/-- The UNIT_RESET an event of scope `k` executes: one whose scope byte is `k`, or one that its checks refuse whatever
the scope of the event, because its length is not 1 or its scope names none of the three (R146; log entry 8). -/
def resetOfScope (k : Byte) (c : QueuedCommand) : Bool :=
  (c.code == 0x0E) && ((c.param 0 == k) || !(c.length == 1) || decide (2 < (c.param 0).toNat))

/-- A UNIT_RESET's own check and effect (R146): the answer follows the effects, so that after CONFIG the cache holds it
alone (R147). -/
def State.unitReset (s : State) (effect : State → State) (c : QueuedCommand) : State :=
  if 2 < (c.param 0).toNat then s.refuse c .invalidField 1 else (effect s).succeed c

/-- UNIT_RESET_COUNTERS (R146). -/
def execUnitResetCounters (s : State) : Outcome State Fault Refusal :=
  .next (s.execute (resetOfScope 0) 1 true fun c s => s.unitReset State.resetCounters c)

/-- UNIT_RESET_PLAYOUT (R146). -/
def execUnitResetPlayout (s : State) : Outcome State Fault Refusal :=
  .next (s.execute (resetOfScope 1) 1 true fun c s => s.unitReset State.resetPlayout c)

/-- UNIT_RESET_CONFIG (R146, R147). -/
def execUnitResetConfig (s : State) : Outcome State Fault Refusal :=
  .next (s.execute (resetOfScope 2) 1 true fun c s => s.unitReset State.resetConfig c)

end Sys2Proof.Machine
end

