-- ==== Sys2Proof/Machine/TableCommands.lean ====
section
/-! DEFINITION. The commands that write groups, the map, the lanes, the unit settings and the claim: GROUP_SET, MAP_SET,
LANE_SET, UNIT_SET, CLAIM, RELEASE (Sections 5.7, 6.4, 8.4, 8.7). -/

namespace Sys2Proof.Machine

open Host (Outcome)

/-! ### GROUP_SET (R94) -/

/-- The first GROUP_SET setting out of range: 1 pilot, 2 target fill, 3 hysteresis, 4 measure interval (R94). -/
def groupFault (c : QueuedCommand) : Option Nat :=
  firstFailing
    [ (1, decide ((c.param 1).toNat < 48 ∨ (c.param 1).toNat = 255))
    , (2, decide (1 ≤ (c.param 2).toNat ∧ (c.param 2).toNat ≤ 32))
    , (3, decide ((c.param 3).toNat ≤ 8))
    , (4, decide (1 ≤ (c.param 4).toNat ∧ (c.param 4).toNat ≤ 64)) ]

/-- A group with the four settings of a GROUP_SET stored and the interval count at 0 (R94). -/
def Group.withSettings (gr : Group) (c : QueuedCommand) : Group :=
  { gr with pilot := byteFlow (c.param 1), target := (c.param 2).toNat, hysteresis := (c.param 3).toNat,
            interval := (c.param 4).toNat, count := 0 }

/-- GROUP_SET (R94). -/
def execGroupSet (s : State) : Outcome State Fault Refusal :=
  .next (s.execute (hasCode 0x07) 5 true fun c s =>
    match byteGroup (c.param 0) with
    | none => s.refuse c .badIndex 0
    | some g =>
      match groupFault c with
      | some id => s.refuse c .invalidField (natByte id)
      | none => (s.setGroup g ((s.group g).withSettings c)).succeed c)

/-! ### MAP_SET (R105) -/

/-- The Position Map with another entry at lane `l`, position `p` (R105). -/
def LaneUnit.setMap (u : LaneUnit) (l : Fin 4) (p : Fin 16) (e : MapEntry) : LaneUnit :=
  { u with map := u.map.set (l.val * 16 + p.val) e }

/-- A byte that names a position: 0 to 15. -/
def bytePosition (b : Byte) : Option (Fin 16) := if h : b.toNat < 16 then some ⟨b.toNat, h⟩ else none

/-- A byte that names a channel: 0 to 7. -/
def byteChannel (b : Byte) : Option (Fin 8) := if h : b.toNat < 8 then some ⟨b.toNat, h⟩ else none

/-- The entry a MAP_SET carries, or the detail of its refusal (R105 checks 2 to 4). For SILENCE the flow and channel are
not checked. -/
def mapSetEntry (c : QueuedCommand) : Except Byte MapEntry :=
  if c.param 2 = 0 then .ok .silence
  else if c.param 2 = 1 then
    match byteFlow (c.param 3), byteChannel (c.param 4) with
    | none, _ => .error 2
    | some _, none => .error 3
    | some f, some ch => .ok (.source f ch)
  else .error 1

/-- MAP_SET (R105). -/
def execMapSet (s : State) : Outcome State Fault Refusal :=
  .next (s.execute (hasCode 0x09) 5 true fun c s =>
    match byteLane (c.param 0), bytePosition (c.param 1) with
    | some l, some p =>
      match mapSetEntry c with
      | .ok e => (s.withLane (s.lane.setMap l p e)).succeed c
      | .error detail => s.refuse c .invalidField detail
    | _, _ => s.refuse c .badIndex 0)

/-! ### LANE_SET (R106) -/

/-- LANE_SET (R104, R106). -/
def execLaneSet (s : State) : Outcome State Fault Refusal :=
  .next (s.execute (hasCode 0x0B) 3 true fun c s =>
    match byteLane (c.param 0) with
    | none => s.refuse c .badIndex 0
    | some l =>
      if !isBit (c.param 1) then s.refuse c .invalidField 1
      else if !isBit (c.param 2) then s.refuse c .invalidField 2
      else
        (s.withLane { s.lane with
          lanes := s.lane.lanes.set l.val { enable := c.param 1 == 1, mute := c.param 2 == 1 } }).succeed c)

/-! ### UNIT_SET (R55, R145, R159) -/

/-- The mask, retry interval and pool low threshold a UNIT_SET carries (Table 11-4). -/
def unitMask (c : QueuedCommand) : Half := halfAt c.params 0

/-- The retry interval a UNIT_SET carries. -/
def unitRetry (c : QueuedCommand) : Nat := (halfAt c.params 2).toNat

/-- The pool low threshold a UNIT_SET carries. -/
def unitThreshold (c : QueuedCommand) : Nat := (halfAt c.params 4).toNat

/-- The first UNIT_SET setting out of range (R145); a mask with any of bits 15 to 9 set is (R173). -/
def unitFault (c : QueuedCommand) : Option Nat :=
  firstFailing
    [ (1, decide ((unitMask c).toNat < 512))
    , (2, decide (5 ≤ unitRetry c ∧ unitRetry c ≤ 1000))
    , (3, decide (unitThreshold c ≤ 384)) ]

/-- A new mask stored: entries of kinds it has off leave the list, and the offer of a removed entry is withdrawn
(R159). -/
def NoticeUnit.setMask (n : NoticeUnit) (mask : BitVec 16) : NoticeUnit :=
  let keeps (e : NoticeEntry) : Bool := mask.getLsbD (noticeCode e.kind)
  { n with
    mask := mask
    entries := n.entries.filter keeps
    offer := n.offer.filter (fun o => !n.entries.any (fun e => !keeps e && (e.number == o.number))) }

/-- A pool low threshold set (R55): only a different one is stored, arms the monitor and is examined at once. -/
def State.setThreshold (s : State) (t : Nat) : State :=
  if t = s.pool.threshold then s
  else if t ≠ 0 ∧ s.pool.free < t then
    (s.withPool { s.pool with threshold := t, armed := false }).raise (plainRaise .poolLow 0)
  else s.withPool { s.pool with threshold := t, armed := true }

/-- UNIT_SET's effects, in order (R145). -/
def State.setUnit (s : State) (c : QueuedCommand) : State :=
  let s := s.withNotice (s.notice.setMask (unitMask c))
  let s := s.withNotice { s.notice with retry := unitRetry c }
  s.setThreshold (unitThreshold c)

/-- UNIT_SET (R145). -/
def execUnitSet (s : State) : Outcome State Fault Refusal :=
  .next (s.execute (hasCode 0x0D) 6 true fun c s =>
    match unitFault c with
    | some id => s.refuse c .invalidField (natByte id)
    | none => (s.setUnit c).succeed c)

/-! ### CLAIM and RELEASE (R137) -/

/-- The lease a CLAIM carries (Table 11-4). -/
def claimLease (c : QueuedCommand) : Nat := (halfAt c.params 0).toNat

/-- The claim record replaced. -/
def State.withClaim (s : State) (k : Claim) : State := s.withMgmt { s.mgmt with claim := k }

/-- CLAIM (R137). -/
def execClaim (s : State) : Outcome State Fault Refusal :=
  .next (s.execute (hasCode 0x0F) 2 false fun c s =>
    if claimLease c = 0 ∨ 60000 < claimLease c then s.refuse c .invalidField 1
    else
      let taken := (s.withClaim { holder := some c.origin, lease := claimLease c, length := claimLease c }).succeed c
      match s.mgmt.claim.holder with
      | none => taken
      | some h => if h = c.origin then taken else s.refuse c .claimed (addrByte h))

/-- RELEASE (R137). -/
def execRelease (s : State) : Outcome State Fault Refusal :=
  .next (s.execute (hasCode 0x10) 0 false fun c s =>
    if s.holds c then (s.withClaim { holder := none, lease := 0, length := 0 }).succeed c
    else s.refuseNotHolder c)

end Sys2Proof.Machine
end

