-- ==== Sys2Proof/Machine/Playout.lean ====
section
/-! DEFINITION. Playout: lane frame starts and clock detection at a frame sync edge (Sections 4.3, 5.3, 5.6, 6.2),
block boundaries (4.4 to 4.6, 4.8), the reference boundary of a group (5.4, 5.5), and the lane bit clock (6.1). -/

namespace Sys2Proof.Machine

open Host (Outcome)

/-! ### Block boundaries (R65 to R71, R77) -/

/-- The first operations of a boundary in PLAYING: the last sample frame and its block's length kept, PLAYED counted,
the head released and advanced (R65 steps 1 to 3). -/
def State.finishBlock (s : State) (f : FlowIx) : State :=
  let fl := s.flow f
  let rt :=
    match fl.window.entryAt 0 with
    | .held b => { fl.rt with lastFrame := some (b.frame (b.length - 1)), lastLen := some b.length }
    | _ => fl.rt
  ((s.setRt f rt).count f .played).advance f

/-- A concealment block begins, the `k`-th of its episode: entry 0 SPENT, the record set, CONCEALED counted (R65, R69,
R71, R89). -/
def State.concealNext (s : State) (f : FlowIx) (k : Nat) : State :=
  let s := s.spendHead f
  (s.setRt f ((s.flow f).rt.toHolding (s.flow f).record k)).count f .concealed

/-- The boundary of a flow in PLAYING (R65). -/
def State.playingBoundary (s : State) (f : FlowIx) : State :=
  let s := s.finishBlock f
  match (s.flow f).window.entryAt 0 with
  | .held b => s.setRt f { (s.flow f).rt with readIndex := 0, blockLen := some b.length }
  | _ => (s.concealNext f 1).raise (flowStateRaise f .holding)

/-- The boundary of a flow in HOLDING (R68 to R71). -/
def State.holdingBoundary (s : State) (f : FlowIx) : State :=
  let k := (s.flow f).rt.holdCount
  let r := (s.flow f).record
  let s := s.advance f
  match (s.flow f).window.entryAt 0 with
  | .held b =>
    match r.exit with
    | .atOnce => (s.setRt f ((s.flow f).rt.toPlaying b.length)).raise (flowStateRaise f .playing)
    | .reprime =>
      if k ≤ r.fade then (s.count f .holdDiscards).concealNext f (k + 1)
      else
        let s := s.setRt f (s.flow f).rt.repriming
        if r.prime ≤ (s.flow f).window.contiguous then s.setRt f (s.flow f).rt.toReady else s
  | _ => if k < r.holdLimit then s.concealNext f (k + 1) else s.cutFlow f

/-- The end of a drain at the flow's block boundary (R77). -/
def State.drainBoundary (s : State) (f : FlowIx) (m : DrainMode) : State :=
  match m with
  | .playing => (s.count f .played).endDrain f false
  | .holding => s.endDrain f false

/-! ### The reference boundary (R86 to R89) -/

/-- A resynchronisation (R88). -/
def State.resync (s : State) (g : GroupIx) : State :=
  let timed := (s.members g).filter (fun f => (s.flow f).rt.state.timed)
  let s := timed.foldl (fun s f => (s.flush f).setRt f (.cleared .idle)) s
  (s.setGroup g ((s.group g).cleared .forming)).raise
    { kind := .groupResync, subject := .group g, detail := 0, dest := none }

/-- The step of a measurement (R87): +1 above the band, -1 below it. -/
def measureStep (contiguous target hysteresis : Nat) : Int :=
  if target + hysteresis < contiguous then 1 else if contiguous + hysteresis < target then -1 else 0

/-- The aligned join of one READY member to the head `h` (R39, R89). -/
def State.join (s : State) (h : Half) (f : FlowIx) : State :=
  let w := (s.flow f).window
  let depth := (s.flow f).record.depth
  let e := seqOffset h w.head
  let s := (s.setWindow f (w.joined depth h)).giveBack f (w.leftBehind e + w.pushedPast depth e)
  let s := s.countTimes f .late (w.leftBehind e)
  let s := s.countTimes f .beyond (w.pushedPast depth e)
  match (s.flow f).window.entryAt 0 with
  | .held b => (s.setRt f ((s.flow f).rt.toPlaying b.length)).raise (flowStateRaise f .playing)
  | _ => (s.concealNext f 1).raise (flowStateRaise f .holding)

/-- The aligned joins of every READY member; the order of several is open (R89; log entry 3). -/
def State.joinAll (s : State) (g : GroupIx) (h : Half) : State :=
  let waiting := (s.members g).filter (fun f => (s.flow f).rt.state == .ready)
  (s.openOrder waiting).foldl (fun s f => s.join h f) (s.orderTaken waiting)

/-- The controller's steps at a boundary that leaves the reference `f` in PLAYING or HOLDING (R86 steps 1 to 3). -/
def State.referenceSteps (s : State) (g : GroupIx) (f : FlowIx) : State :=
  let h := (s.flow f).window.head
  let gr := s.group g
  let count := gr.count + 1
  if gr.interval ≤ count then
    let step := measureStep (s.flow f).window.contiguous gr.target gr.hysteresis
    if gr.debt + step < -8 ∨ 8 < gr.debt + step then s.resync g
    else (s.setGroup g { gr with slipDone := false, count := 0, debt := gr.debt + step }).joinAll g h
  else (s.setGroup g { gr with slipDone := false, count := count }).joinAll g h

/-- What the Group Slip Controller does within the boundary of the flow that was the reference (R86). -/
def State.referenceBoundary (s : State) (g : GroupIx) (f : FlowIx) : State :=
  if (s.flow f).rt.state.playsOrHolds then s.referenceSteps g f
  else s.setGroup g { s.group g with slipDone := false }

/-- The group of which a flow is the reference, if it is one's (R83, R86). -/
def State.refersTo (s : State) (f : FlowIx) : Option GroupIx :=
  match (s.flow f).record.group with
  | some g => if (s.group g).state = .running ∧ s.reference g = some f then some g else none
  | none => none

/-- The boundary's own decision, by the flow's state (R65, R68, R77). -/
def State.ownBoundary (s : State) (f : FlowIx) : State :=
  match (s.flow f).rt.state with
  | .playing => s.playingBoundary f
  | .holding => s.holdingBoundary f
  | .draining m => s.drainBoundary f m
  | .disabled | .idle | .priming | .ready | .cut => s

/-- The block boundary of a flow, if it is due (R63); then the group's part, if the flow was its reference when the
boundary was taken (R86), and the RUNNING-to-FORMING rule (R82). -/
def State.boundary (s : State) (f : FlowIx) : State :=
  if (s.flow f).boundaryDue then
    let led := s.refersTo f
    let s := s.ownBoundary f
    match led with
    | some g => (s.referenceBoundary g f).settleGroup g
    | none => s.settleGroupOf f
  else s

/-- BLOCK_BOUNDARY (R63): a boundary that is not due does nothing. -/
def execBlockBoundary (f : FlowIx) (s : State) : Outcome State Fault Refusal := .next (s.boundary f)

/-! ### Lane frame starts (R61 to R63, R84, R91 to R93, R97) -/

/-- A FORMING group is started at this lane frame start (R84). -/
def State.groupStarts (s : State) (g : GroupIx) : Bool :=
  decide ((s.group g).state = .forming) &&
    (s.members g).any (fun f => (s.flow f).rt.state == .ready) &&
    (s.members g).all (fun f => (s.flow f).rt.state == .ready || (s.flow f).rt.state == .idle || (s.flow f).rt.state == .cut)

/-- Flow `f` is READY and becomes PLAYING at this lane frame start (R61, R84). -/
def State.startsNow (s : State) (f : FlowIx) : Bool :=
  ((s.flow f).rt.state == .ready) &&
    (match (s.flow f).record.group with
      | some g => s.groupStarts g
      | none => true)

/-- The starts of a lane frame start (R61, R84): flows become PLAYING, groups RUNNING. -/
def State.startAll (s : State) : State :=
  { s with
    flows := Vector.ofFn fun f : FlowIx =>
      if s.startsNow f then { s.flow f with rt := (s.flow f).rt.toPlaying (s.flow f).headLength } else s.flow f
    groups := Vector.ofFn fun g : GroupIx =>
      if s.groupStarts g then (s.group g).cleared .running else s.group g }

/-- The slip a group executes at this lane frame start (R91): -1 a REPEAT, +1 a DROP, 0 none. -/
def State.slip (s : State) (g : GroupIx) : Int :=
  let gr := s.group g
  let playing := (s.members g).filter (fun f => (s.flow f).rt.state == .playing)
  if gr.state = .running ∧ gr.slipDone = false ∧ playing ≠ [] ∧
      (s.members g).all (fun f => !((s.flow f).rt.state == .holding)) = true then
    if gr.debt < 0 then -1
    else if 0 < gr.debt ∧
        playing.all (fun f => decide ((s.flow f).rt.readIndex + 2 ≤ (s.flow f).rt.blockLen.getD 0)) = true then 1
    else 0
  else 0

/-- The slip a flow takes part in: its group's, if it is a PLAYING member (R92, R93). -/
def State.slipOf (s : State) (f : FlowIx) : Int :=
  match (s.flow f).record.group with
  | some g => if (s.flow f).rt.state = .playing then s.slip g else 0
  | none => 0

/-- How far a presenting flow's read index advances (R63): 1, but 0 at a REPEAT and 2 at a DROP. -/
def advanceBy (slip : Int) : Nat := if slip < 0 then 0 else if 0 < slip then 2 else 1

/-- A flow after it has presented (R63): read index advanced, SLIPS counted if it slipped (R92, R93). -/
def Flow.afterPresenting (fl : Flow) (slip : Int) : Flow :=
  if fl.rt.state.presenting then
    let fl := { fl with rt := { fl.rt with readIndex := fl.rt.readIndex + advanceBy slip } }
    if slip = 0 then fl else fl.bump .slips
  else fl

/-- A group after its slip (R92, R93): the debt one nearer to 0, the slip-done flag set. -/
def Group.afterSlip (g : Group) (slip : Int) : Group :=
  if slip = 0 then g else { g with debt := g.debt - slip, slipDone := true }

/-- The 64 words of a lane frame (R97, R103). -/
def State.formWords (s : State) : Vector LongWord 64 :=
  Vector.ofFn fun i : Fin 64 =>
    s.formWord ⟨i.val / 16, by omega⟩ ⟨i.val % 16, Nat.mod_lt _ (by omega)⟩

/-- The lane unit begins a lane frame with these words, position 0 first (R96). -/
def LaneUnit.begin (l : LaneUnit) (words : Vector LongWord 64) : LaneUnit := { l with words := words, bitPos := 0 }

/-- The advances of a lane frame start (R63, R92, R93), slips tested on the state as it is taken (R91). -/
def State.advanceAll (s : State) : State :=
  { s with
    flows := Vector.ofFn fun f : FlowIx => (s.flow f).afterPresenting (s.slipOf f)
    groups := Vector.ofFn fun g : GroupIx => (s.group g).afterSlip (s.slip g) }

/-- The raises of a lane frame start for one flow: FLOW_STATE(PLAYING) if it starts (R79), COUNTER_WRAP if SLIPS wraps
(R163). `s` is the state as the lane frame start is taken, `t` the state after the starts. -/
def State.startRaises (s t : State) (f : FlowIx) : List Raise :=
  (if s.startsNow f then [flowStateRaise f .playing] else []) ++
    (if t.slipOf f = 0 then [] else t.wrapRaises f .slips)

/-- A lane frame start (R97): starts, presentation and word forming, advances; the raises of several flows are in an
open order (log entry 3). -/
def State.laneFrameStart (s : State) : State :=
  let t := s.startAll
  let u := t.advanceAll
  (u.withLane (u.lane.begin t.formWords)).raiseOpen (allFlows.map (s.startRaises t))

/-! ### Clock detection at an edge (R99) -/

/-- The raise of LANE_CLOCK (Table 11-7). -/
def laneClockRaise (present : Bool) : Raise := plainRaise .laneClock (flagByte present)

/-- An edge taken in ABSENT (R99): it counts toward the run of four, and its lane frame carries zero words. -/
def State.acquireEdge (s : State) : State :=
  let l := { s.lane.begin (Vector.replicate 64 0) with gap := 0 }
  if s.lane.run < 3 then s.withLane { l with run := s.lane.run + 1 }
  else (s.withLane { l with run := 0, status := .present }).raise (laneClockRaise true)

/-- Every due boundary is taken before the next frame sync edge (R63: the next lane frame start presents from whatever
the boundary left; log entry 6). The order of several flows' boundaries is open (R63; log entry 3). -/
def State.takeDueBoundaries (s : State) : State :=
  let due := allFlows.filter (fun f => (s.flow f).boundaryDue)
  (s.openOrder due).foldl State.boundary (s.orderTaken due)

/-- FRAME_SYNC_EDGE (R97, R99). -/
def execFrameSyncEdge (s : State) : Outcome State Fault Refusal :=
  let s := s.takeDueBoundaries
  match s.lane.status with
  | .present => .next (s.withLane { s.lane with gap := 0 }).laneFrameStart
  | .absent => .next s.acquireEdge

/-! ### The lane bit clock (R96, R101) -/

/-- The bit a lane's data output sends at the next bit clock: bit `bitPos` of the words of the lane frame that began
last, in position order, most significant bit first; zero after position 15 (R96). The status plays no part: a lane frame
begun before the loss of the lane clock is sent as far as the bit clock shifts it, and one begun while the status is
ABSENT has zero words (R101). -/
def LaneUnit.nextBit (l : LaneUnit) (lane : Fin 4) : Bool :=
  if h : l.bitPos < 512 then
    (l.words[lane.val * 16 + l.bitPos / 32]'(by omega)).getMsbD (l.bitPos % 32)
  else false

/-- LANE_BIT_CLOCK (R96): each lane data output sends its next bit. -/
def execLaneBitClock (s : State) : Outcome State Fault Refusal :=
  .next (s.withLane { s.lane with out := Vector.ofFn s.lane.nextBit, bitPos := min 512 (s.lane.bitPos + 1) })

end Sys2Proof.Machine
end

