-- ==== Sys2Proof/Machine/Tick.lean ====
section
/-! DEFINITION. The 1 ms tick: notice sending (Section 9.3), the silence and drain timers (4.7, 4.8), the gap timer
(6.2) and the claim lease (8.4), and what each brings about when it reaches its end. -/

namespace Sys2Proof.Machine

open Host (Outcome)

/-! ### The Notice Unit's part of a tick (R155, R156) -/

/-- A SENT entry's retry timer advances by 1, unless the entry is due already: its timer then stays at its interval
(R155). -/
def NoticeEntry.aged (e : NoticeEntry) : NoticeEntry :=
  match e.condition with
  | .sent timer interval => { e with condition := .sent (if timer < interval then timer + 1 else timer) interval }
  | .pending => e

/-- An entry is due: SENT, its timer at its interval in use (R155). -/
def NoticeEntry.due (e : NoticeEntry) : Bool :=
  match e.condition with
  | .sent timer interval => decide (interval ≤ timer)
  | .pending => false

/-- A due entry that is given up (R155 step 2). -/
def NoticeEntry.givenUp (e : NoticeEntry) : Bool := e.due && decide (3 ≤ e.sendCount)

/-- Steps 1 and 2 of R155: timers, then give-up with NOTICES_LOST counted and a given-up entry's offer withdrawn. -/
def NoticeUnit.ageAndGiveUp (n : NoticeUnit) : NoticeUnit :=
  let aged := n.entries.map NoticeEntry.aged
  let gone := aged.filter NoticeEntry.givenUp
  let offer := n.offer.filter (fun o => !gone.any (fun e => e.number == o.number))
  { n with entries := aged.filter (fun e => !e.givenUp), offer := offer, lost := n.lost + BitVec.ofNat 32 gone.length }

/-- A due entry may be chosen: the offer is empty or holds that entry's own frame (R155 step 3). -/
def NoticeUnit.mayResend (n : NoticeUnit) (e : NoticeEntry) : Bool :=
  e.due && (match n.offer with | none => true | some o => o.number == e.number)

/-- A PENDING entry is eligible: no SENT entry of its kind and subject is in the list (R155 step 3). -/
def NoticeUnit.eligible (n : NoticeUnit) (e : NoticeEntry) : Bool :=
  !e.isSent && !n.entries.any (fun x => x.isSent && x.sameMatter e)

/-- The choice of R155 step 3. -/
def NoticeUnit.choose (n : NoticeUnit) : Option NoticeEntry :=
  match n.entries.find? n.mayResend with
  | some e => some e
  | none =>
    if n.offer.isNone && decide ((n.entries.filter NoticeEntry.isSent).length < 4) then n.entries.find? n.eligible
    else none

/-- An entry as its send leaves it (R155 step 4). -/
def NoticeEntry.sentAt (retry : Nat) (e : NoticeEntry) : NoticeEntry :=
  { e with condition := .sent 0 retry, sendCount := saturate (e.sendCount + 1) }

/-- The destination of a send (R156). -/
def sendDest (holder : Option Addr) (e : NoticeEntry) : Addr :=
  match e.kind with
  | .claimLost => e.fixedDest.getD 0
  | .flowState | .flowLate | .counterWrap | .poolLow | .groupResync | .laneClock | .ringIn | .overflow =>
    holder.getD 0

/-- The send of R155 step 4: the entry SENT, its frame on offer. -/
def NoticeUnit.send (n : NoticeUnit) (holder : Option Addr) (e : NoticeEntry) : NoticeUnit :=
  { n with
    entries := updateFirst (fun x => decide (x = e)) (NoticeEntry.sentAt n.retry) n.entries
    offer := some { dest := sendDest holder e, number := e.number, kind := e.kind, subject := e.subject,
                    detail := e.detail, repeats := e.repeats } }

/-- The Notice Unit's part of a tick (R155). -/
def State.noticeTick (s : State) : State :=
  let n := s.notice.ageAndGiveUp
  if s.assigned then
    match n.choose with
    | some e => s.withNotice (n.send s.mgmt.claim.holder e)
    | none => s.withNotice n
  else s.withNotice n

/-! ### The timers (R73, R77, R98, R138) -/

/-- A running timer advances by 1; a stopped one stays stopped. -/
def timerTick (t : Option Nat) : Option Nat := t.map (· + 1)

/-- A flow's timers at a tick (R73, R77). -/
def Flow.tick (fl : Flow) : Flow :=
  { fl with rt := { fl.rt with silence := timerTick fl.rt.silence, drain := timerTick fl.rt.drain } }

/-- All timers but the notices' advance (R73, R77, R98, R138). -/
def State.advanceTimers (s : State) : State :=
  { s with
    flows := Vector.ofFn fun f : FlowIx => (s.flow f).tick
    lane := { s.lane with gap := min 2 (s.lane.gap + 1) }
    mgmt := { s.mgmt with claim := { s.mgmt.claim with lease := s.mgmt.claim.lease - 1 } } }

/-- What the next tick brings flow `f`'s silence timer to (R73). -/
def Flow.nextSilence (fl : Flow) : Option Nat := if fl.rt.state.timed then timerTick fl.rt.silence else none

/-- The next tick brings the flow's silence timer to its late threshold, which is not 0 (R74). -/
def State.lateFalls (s : State) (f : FlowIx) : Bool :=
  decide ((s.flow f).record.late ≠ 0) && ((s.flow f).nextSilence == some (s.flow f).record.late)

/-- The next tick brings the flow's silence timer to its cut threshold (R75). -/
def State.cutFalls (s : State) (f : FlowIx) : Bool := (s.flow f).nextSilence == some (s.flow f).record.cut

/-- The next tick brings the flow's drain timer to 50 (R77). -/
def State.deadlineFalls (s : State) (f : FlowIx) : Bool :=
  (s.flow f).rt.state.isDraining && (timerTick (s.flow f).rt.drain == some 50)

/-- The next tick brings the claim lease to 0 (R138). -/
def State.leaseFalls (s : State) : Bool := s.mgmt.claim.holder.isSome && decide (s.mgmt.claim.lease = 1)

/-- The next tick brings the gap timer to 2 (R98). -/
def State.gapFalls (s : State) : Bool := decide (s.lane.gap = 1)

/-- The next tick brings the retry timer of the SENT entry of this number to its interval in use (R155). -/
def State.noticeFalls (s : State) (number : Byte) : Bool :=
  s.notice.entries.any (fun e => (e.number == number) && e.isSent && !e.due && e.aged.due)

/-! ### What a timer brings about -/

/-- The late threshold (R74). -/
def State.goLate (s : State) (f : FlowIx) : State :=
  (s.setRt f { (s.flow f).rt with late := true }).raise
    { kind := .flowLate, subject := .flow f, detail := 0, dest := none }

/-- The drain deadline (R77): nothing if the drain has ended by another event first. -/
def State.endOverdue (s : State) (f : FlowIx) : State :=
  if (s.flow f).rt.state.isDraining then s.endDrain f true else s

/-- The expiry of the claim (R138). -/
def State.expireClaim (s : State) : State :=
  (s.withMgmt { s.mgmt with claim := { holder := none, lease := 0, length := 0 } }).raise
    { kind := .claimLost, subject := .none, detail := 0, dest := s.mgmt.claim.holder }

/-- The gap timer at 2 (R98, R99): in PRESENT the status becomes ABSENT, LANE_CLOCK(ABSENT) is raised and every drain
ends; in ABSENT the run starts again. -/
def State.loseClock (s : State) : State :=
  match s.lane.status with
  | .present => ((s.withLane { s.lane with status := .absent, run := 0 }).raise (laneClockRaise false)).endDrains
  | .absent => s.withLane { s.lane with run := 0 }

/-- What a tick brings about: one item for each timer that reaches its end at it. -/
inductive Falling where
  | late (f : FlowIx)
  | cut (f : FlowIx)
  | deadline (f : FlowIx)
  | lease
  | gap
deriving DecidableEq, Repr

/-- The items the next tick brings about, read off the state before it. -/
def State.falling (s : State) : List Falling :=
  (allFlows.filter s.lateFalls).map .late ++ (allFlows.filter s.cutFalls).map .cut ++
    (allFlows.filter s.deadlineFalls).map .deadline ++ (if s.leaseFalls then [.lease] else []) ++
    (if s.gapFalls then [.gap] else [])

/-- One item taken. -/
def State.takeFalling (s : State) : Falling → State
  | .late f => s.goLate f
  | .cut f => s.cutFlow f
  | .deadline f => s.endOverdue f
  | .lease => s.expireClaim
  | .gap => s.loseClock

/-- A whole tick: the Notice Unit's part (R155; before the raises of this tick, log entry 5), every timer one on, then
what the timers bring about: the items of `first`, then the others in an open order (log entries 3 and 4). -/
def State.tickTaking (s : State) (first : List Falling) : State :=
  let rest := s.falling.filter (fun x => !first.contains x)
  let t := (s.noticeTick.advanceTimers).orderTaken rest
  (first ++ s.openOrder rest).foldl State.takeFalling t

/-- TICK (R73, R98, R138, R155). -/
def execTick (s : State) : Outcome State Fault Refusal := .next (s.tickTaking [])

/-- LATE_THRESHOLD (R74): the tick that brings the flow's silence timer to its late threshold, the threshold taken
first. A tick that does not is not this event, and nothing happens (log entry 4). -/
def execLateThreshold (f : FlowIx) (s : State) : Outcome State Fault Refusal :=
  .next (if s.lateFalls f then s.tickTaking [.late f] else s)

/-- CUT_THRESHOLD (R75): the tick that brings the flow's silence timer to its cut threshold, the cut taken first. -/
def execCutThreshold (f : FlowIx) (s : State) : Outcome State Fault Refusal :=
  .next (if s.cutFalls f then s.tickTaking [.cut f] else s)

/-- DRAIN_DEADLINE (R77): the tick that brings the flow's drain timer to 50, the deadline taken first. -/
def execDrainDeadline (f : FlowIx) (s : State) : Outcome State Fault Refusal :=
  .next (if s.deadlineFalls f then s.tickTaking [.deadline f] else s)

/-- LEASE_EXPIRY (R138): the tick that brings the claim lease to 0, the expiry taken first. -/
def execLeaseExpiry (s : State) : Outcome State Fault Refusal :=
  .next (if s.leaseFalls then s.tickTaking [.lease] else s)

/-- LANE_CLOCK_GAP (R98): the tick that brings the gap timer to 2, the loss of the clock taken first. -/
def execLaneClockGap (s : State) : Outcome State Fault Refusal :=
  .next (if s.gapFalls then s.tickTaking [.gap] else s)

/-- NOTICE_DUE (R155): the tick that brings the retry timer of the SENT entry of this number to its interval in use; the
entry is then re-sent, given up or passed over within it. -/
def execNoticeDue (number : Byte) (s : State) : Outcome State Fault Refusal :=
  .next (if s.noticeFalls number then s.tickTaking [] else s)

end Sys2Proof.Machine
end

