-- ==== Sys2Proof/Machine/Dispatch.lean ====
section
/-! DEFINITION. One arm per command: the meaning it calls. -/

namespace Sys2Proof.Machine

def exec (i : Instr) (s : State) : Host.Outcome State Fault Refusal :=
  match i with
  | .pinReset => Sys2Proof.Machine.execPinReset s
  | .carrierPresent => Sys2Proof.Machine.execCarrierPresent s
  | .carrierLoss => Sys2Proof.Machine.execCarrierLoss s
  | .frameReceived bytes => Sys2Proof.Machine.execFrameReceived bytes s
  | .ownRateFrame => Sys2Proof.Machine.execOwnRateFrame s
  | .frameSyncEdge => Sys2Proof.Machine.execFrameSyncEdge s
  | .blockBoundary f => Sys2Proof.Machine.execBlockBoundary f s
  | .tick => Sys2Proof.Machine.execTick s
  | .lateThreshold f => Sys2Proof.Machine.execLateThreshold f s
  | .cutThreshold f => Sys2Proof.Machine.execCutThreshold f s
  | .drainDeadline f => Sys2Proof.Machine.execDrainDeadline f s
  | .leaseExpiry => Sys2Proof.Machine.execLeaseExpiry s
  | .laneClockGap => Sys2Proof.Machine.execLaneClockGap s
  | .noticeDue number => Sys2Proof.Machine.execNoticeDue number s
  | .statusGet => Sys2Proof.Machine.execStatusGet s
  | .flowSet => Sys2Proof.Machine.execFlowSet s
  | .flowGet => Sys2Proof.Machine.execFlowGet s
  | .flowEnable => Sys2Proof.Machine.execFlowEnable s
  | .flowDisable => Sys2Proof.Machine.execFlowDisable s
  | .flowRestart => Sys2Proof.Machine.execFlowRestart s
  | .groupSet => Sys2Proof.Machine.execGroupSet s
  | .groupGet => Sys2Proof.Machine.execGroupGet s
  | .mapSet => Sys2Proof.Machine.execMapSet s
  | .mapGet => Sys2Proof.Machine.execMapGet s
  | .laneSet => Sys2Proof.Machine.execLaneSet s
  | .countersGet => Sys2Proof.Machine.execCountersGet s
  | .unitSet => Sys2Proof.Machine.execUnitSet s
  | .unitResetCounters => Sys2Proof.Machine.execUnitResetCounters s
  | .unitResetPlayout => Sys2Proof.Machine.execUnitResetPlayout s
  | .unitResetConfig => Sys2Proof.Machine.execUnitResetConfig s
  | .claim => Sys2Proof.Machine.execClaim s
  | .release => Sys2Proof.Machine.execRelease s
  | .unknownCommand => Sys2Proof.Machine.execUnknownCommand s
  | .laneBitClock => Sys2Proof.Machine.execLaneBitClock s

end Sys2Proof.Machine
end

