-- ==== Sys2Proof/Machine/Step.lean ====
section
/-! DEFINITION. The step: the command at the front of the queue is taken. -/

namespace Sys2Proof.Machine

/-- The commands that wait, replaced. -/
def State.withPending (s : State) (p : List Instr) : State := { s with pending := p }

/-- One step: the command at the front of the queue, executed on the state with the queue's rest; on an empty queue the
unit idles (log entry 1). -/
def step (s : State) : Host.Outcome State Fault Refusal :=
  match s.pending with
  | [] => .next s
  | c :: rest => exec c (s.withPending rest)

/-- The state with the command a table word spells at the front of its queue; no word spells one (log entry 17). -/
def State.withFetchWord (s : State) (nbits w : Nat) : State :=
  match decodeTableWord nbits w with
  | some c => s.withPending (c :: s.pending)
  | none => s

end Sys2Proof.Machine
end

