-- ==== Sys2Proof/WellFormed.lean ====
section
/-! DEFINITION. Which commands are well formed. -/

namespace Sys2Proof

/-- Every frame of the ring is 308 bytes long (R108). Flow indexes are in range by their type. -/
def Instr.wellFormed : Instr → Bool
  | .frameReceived bytes => bytes.length == 308
  | .pinReset => true
  | .carrierPresent => true
  | .carrierLoss => true
  | .ownRateFrame => true
  | .frameSyncEdge => true
  | .blockBoundary _ => true
  | .tick => true
  | .lateThreshold _ => true
  | .cutThreshold _ => true
  | .drainDeadline _ => true
  | .leaseExpiry => true
  | .laneClockGap => true
  | .noticeDue _ => true
  | .statusGet => true
  | .flowSet => true
  | .flowGet => true
  | .flowEnable => true
  | .flowDisable => true
  | .flowRestart => true
  | .groupSet => true
  | .groupGet => true
  | .mapSet => true
  | .mapGet => true
  | .laneSet => true
  | .countersGet => true
  | .unitSet => true
  | .unitResetCounters => true
  | .unitResetPlayout => true
  | .unitResetConfig => true
  | .claim => true
  | .release => true
  | .unknownCommand => true
  | .laneBitClock => true

end Sys2Proof
end

