-- ==== Sys2Proof/Safety.lean ====
section
/-! DEFINITION. What counts as a safe state: the laws the spec states of the whole unit, block by block, which the
statements of Certificates/Slice0/Obligations.lean say every step keeps; and the words those statements are written
in: what one event leaves behind, written out part by part. -/

namespace Sys2Proof.Machine

/-- The law of the notice list (R152): at most 16 entries and at most one OVERFLOW entry, and never more than one
PENDING and one SENT entry for one kind and subject. -/
def NoticeUnit.Lawful (n : NoticeUnit) : Prop :=
  (n.entries.filter (fun e => !e.inOverflowPlace)).length ≤ 16 ∧
  (n.entries.filter NoticeEntry.inOverflowPlace).length ≤ 1 ∧
  ∀ k x, (n.entries.filter (fun e => e.pendingOf k x)).length ≤ 1 ∧
    (n.entries.filter (fun e => e.isSent && decide (e.kind = k) && decide (e.subject = x))).length ≤ 1

/-- No two notice entries hold the same number (R153). -/
def NoticeUnit.NumbersDistinct (n : NoticeUnit) : Prop := (n.entries.map NoticeEntry.number).Nodup

/-- The keys of the queued commands and of the cached answers: origin and tag (R129, R134). -/
def Mgmt.keys (m : Mgmt) : List (Addr × Byte) :=
  m.queue.map (fun c => (c.origin, c.tag)) ++ m.cache.map (fun a => (a.dest, a.tag))

/-- The law of the Management Engine (R126, R130, R134): at most 4 commands held, every command held owed a free place
in the answer queue of 8, at most 4 cached answers, and no key twice among the queue and the cache. -/
def State.ManagementLawful (s : State) : Prop :=
  s.mgmt.queue.length ≤ 4 ∧ s.ring.answers.length + s.mgmt.queue.length ≤ 8 ∧ s.mgmt.cache.length ≤ 4 ∧
    s.mgmt.keys.Nodup

/-- The law of the claim record (R136): with no holder the lease and its length are 0; with one the lease has not run
out, is no longer than its length, and its length is one a CLAIM may ask for. -/
def Claim.Lawful (c : Claim) : Prop :=
  (c.holder = none → c.lease = 0 ∧ c.length = 0) ∧
  (c.holder ≠ none → 1 ≤ c.lease ∧ c.lease ≤ c.length ∧ c.length ≤ 60000)

/-- The law of a drain (R76, R77, R142, R143): the DRAINING flow is the one for which the command in execution waits, so
there is at most one; that command is the oldest of the queue, a FLOW_DISABLE of that flow; and the lane clock is
PRESENT. -/
def State.DrainLawful (s : State) : Prop :=
  (∀ f : FlowIx, (s.flow f).rt.state.isDraining = true ↔ s.mgmt.deferred = some f) ∧
  ∀ f : FlowIx, s.mgmt.deferred = some f →
    s.lane.status = .present ∧
      ∃ c, s.mgmt.queue.head? = some c ∧ c.code = 0x05 ∧ c.length = 1 ∧ (byteAt c.params 0).toNat = f.val

/-- The law of the slip debt (R91): between -8 and +8, and 0 whenever the group is FORMING. -/
def Group.Lawful (g : Group) : Prop := -8 ≤ g.debt ∧ g.debt ≤ 8 ∧ (g.state = .forming → g.debt = 0)

/-- The law of every group of the unit (R91). -/
def State.GroupsLawful (s : State) : Prop := ∀ g : GroupIx, (s.group g).Lawful

/-- A RUNNING group always has a reference flow, a member in PLAYING or HOLDING, and a FORMING group has none (R82,
R83). -/
def State.ReferencesLawful (s : State) : Prop :=
  ∀ g : GroupIx, (s.group g).state = .running ↔ (s.reference g).isSome = true

/-- The law of a flow's read index (R57, R63): the blocks it holds, and the last block played, are 6 or 12 sample
frames long; a flow that presents has a current block length of 6 or 12, which its read index does not pass; in every
other state it has no current block length and its read index is 0. -/
def Flow.ReadLawful (fl : Flow) : Prop :=
  (∀ k b, fl.window.entryAt k = .held b → b.length = 6 ∨ b.length = 12) ∧
  (∀ n, fl.rt.lastLen = some n → n = 6 ∨ n = 12) ∧
  (fl.rt.state.presenting = true → ∃ n, fl.rt.blockLen = some n ∧ (n = 6 ∨ n = 12) ∧ fl.rt.readIndex ≤ n) ∧
  (fl.rt.state.presenting = false → fl.rt.blockLen = none ∧ fl.rt.readIndex = 0)

/-- The law of every flow's read index. -/
def State.ReadsLawful (s : State) : Prop := ∀ f : FlowIx, (s.flow f).ReadLawful

/-- The law of a flow's window (R4, R23, R24, R25): the depth is from 2 to 32 and the prime depth from 1 to the depth,
nothing stands at the depth or beyond, the held count is the number of HELD entries, a flow in DISABLED, IDLE or CUT has
no entry that is not EMPTY, and a SPENT entry stands only at offset 0 of a flow in HOLDING or DRAINING. -/
def Flow.Lawful (fl : Flow) : Prop :=
  (2 ≤ fl.record.depth ∧ fl.record.depth ≤ 32 ∧ 1 ≤ fl.record.prime ∧ fl.record.prime ≤ fl.record.depth) ∧
  (∀ k, fl.record.depth ≤ k → fl.window.entryAt k = .empty) ∧
  fl.held = fl.window.fill ∧
  (fl.rt.state = .disabled ∨ fl.rt.state = .idle ∨ fl.rt.state = .cut → ∀ k, fl.window.entryAt k = .empty) ∧
  (∀ k, fl.window.entryAt k = .spent → k = 0 ∧ (fl.rt.state = .holding ∨ fl.rt.state.isDraining = true))

/-- What stands in entry 0 while a flow is to play or to conceal (R24): a READY or PLAYING flow holds its head, the head of
a HOLDING flow is SPENT, and a DRAINING flow has the head of the state from which it began to drain. -/
def Flow.HeadLawful (fl : Flow) : Prop :=
  (fl.rt.state = .ready ∨ fl.rt.state = .playing ∨ fl.rt.state = .draining .playing →
    ∃ b, fl.window.entryAt 0 = .held b) ∧
  (fl.rt.state = .holding ∨ fl.rt.state = .draining .holding → fl.window.entryAt 0 = .spent)

/-- The law of every flow's head (R24). -/
def State.HeadsLawful (s : State) : Prop := ∀ f : FlowIx, (s.flow f).HeadLawful

/-- The buffers held by all flows (R44). -/
def State.heldTotal (s : State) : Nat := (allFlows.map (fun f => (s.flow f).held)).sum

/-- The law of the Block Pool (R24, R25, R44, R46): every window lawful, free plus held always 384, and the free count
never less than the outstanding reservation. -/
def State.PoolLawful (s : State) : Prop :=
  (∀ f : FlowIx, (s.flow f).Lawful) ∧ s.pool.free + s.heldTotal = Config.poolSize ∧ s.outstanding ≤ s.pool.free

/-- The law of stream tags (R16, R17): every matchable flow has a tag, and no two have the same. -/
def State.TagsLawful (s : State) : Prop :=
  (∀ f : FlowIx, (s.flow f).rt.state.matchable = true → (s.flow f).record.tag ≠ 0) ∧
  ∀ f g : FlowIx, (s.flow f).rt.state.matchable = true → (s.flow g).rt.state.matchable = true →
    (s.flow f).record.tag = (s.flow g).record.tag → f = g

/-! ### The words of the statements -/

/-- The raises, handled one after another (R150). -/
def NoticeUnit.takeAll (n : NoticeUnit) (rs : List Raise) : NoticeUnit := rs.foldl NoticeUnit.take n

/-- The notice number the next entry is given (R153): the first, counting upward from the number counter and wrapping,
that no entry holds. -/
def NoticeUnit.Gives (n : NoticeUnit) (number : Byte) : Prop :=
  (∀ e ∈ n.entries, e.number ≠ number) ∧
  ∀ k : Nat, k < (number - n.nextNumber).toNat → ∃ e ∈ n.entries, e.number = n.nextNumber + BitVec.ofNat 8 k

/-- The pool after one grant (R48, R53): one buffer fewer, the monitor disarmed if the count has fallen low. -/
def Pool.granted (p : Pool) : Pool :=
  { p with free := p.free - 1, armed := p.armed && decide (p.threshold ≤ p.free - 1) }

/-- The raises of one grant (R53): POOL_LOW if the monitor is armed and the count falls below the threshold. -/
def Pool.lowRaises (p : Pool) : List Raise :=
  if p.armed = true ∧ p.free - 1 < p.threshold then [{ kind := .poolLow, subject := .none, detail := 0, dest := none }]
  else []

/-- The pool after `n` releases (R49, R54): `n` buffers more, the monitor armed if the count has reached the threshold
plus 8. -/
def Pool.released (p : Pool) (n : Nat) : Pool :=
  if n = 0 then p else { p with free := p.free + n, armed := p.armed || decide (p.threshold + 8 ≤ p.free + n) }

/-- The unit after a counter of flow `f` has risen by 1, with its COUNTER_WRAP where it wrapped (R163). -/
def State.counted (s : State) (f : FlowIx) (c : Counter) : State :=
  (s.setFlow f ((s.flow f).bump c)).withNotice (s.notice.takeAll (s.wrapRaises f c))

/-- A flow whose window is flushed and whose record is set as on entry into a state (R40, Table 4-4). -/
def Flow.emptied (fl : Flow) (rt : Runtime) : Flow :=
  { fl with window := { fl.window with entries := Vector.replicate 32 .empty }, held := 0, rt := rt }

/-- Flow `f` is the last member of group `g` in PLAYING or HOLDING, and `g` is RUNNING: a state change that takes `f`
out of them makes `g` FORMING (R82). -/
def State.leads (s : State) (f : FlowIx) (g : GroupIx) : Prop :=
  (s.group g).state = .running ∧ (s.flow f).record.group = some g ∧ ∀ x : FlowIx, x ≠ f → s.candidate g x = false

/-- What an event that takes flow `f` out of PLAYING and HOLDING leaves of the groups (R82): a RUNNING group it leaves
without a candidate becomes FORMING with its runtime values cleared, and every other group is as before. -/
def State.groupsAfterLoss (s t : State) (f : FlowIx) : Prop :=
  ∀ g : GroupIx,
    (s.leads f g → t.group g = { s.group g with state := .forming, debt := 0, count := 0, slipDone := false }) ∧
    (¬ s.leads f g → t.group g = s.group g)

/-- The block boundary of flow `f` leaves `u` where `f` is not its group's reference; where it is, the Group Slip Controller
then acts on `u` within the same event (R86). -/
def State.boundaryGives (s : State) (f : FlowIx) (u : State) : Prop :=
  (s.refersTo f = none → exec (.blockBoundary f) s = .next u) ∧
  ∀ g, s.refersTo f = some g → exec (.blockBoundary f) s = .next ((u.referenceBoundary g f).settleGroup g)

/-- What a boundary that takes flow `f` out of PLAYING and HOLDING leaves of the groups (R82, R86): a RUNNING group left
without a candidate becomes FORMING; the group of which `f` was the reference has its slip-done flag cleared; every other
group is as before. -/
def State.groupsAfterExit (s t : State) (f : FlowIx) : Prop :=
  ∀ g : GroupIx,
    (s.leads f g → t.group g = { s.group g with state := .forming, debt := 0, count := 0, slipDone := false }) ∧
    (¬ s.leads f g → s.refersTo f = some g → t.group g = { s.group g with slipDone := false }) ∧
    (¬ s.leads f g → s.refersTo f ≠ some g → t.group g = s.group g)

/-- Command `c` is the one to be executed next: the oldest of the queue, with no execution in progress (R132). -/
def State.inTurn (s : State) (c : QueuedCommand) : Prop := s.mgmt.deferred = none ∧ s.mgmt.queue.head? = some c

/-- The unit after the lease has been reloaded at the start of an execution whose origin is the holder (R136). -/
def State.reloaded (s : State) (c : QueuedCommand) : State :=
  if s.mgmt.claim.holder = some c.origin then
    s.withMgmt { s.mgmt with claim := { s.mgmt.claim with lease := s.mgmt.claim.length } }
  else s

/-- The unit after command `c` has been completed with this answer (R132 to R134): the answer at the back of the answer
queue and of the cache, the oldest of 4 cached answers removed, the command out of the command queue. -/
def State.answered (s : State) (c : QueuedCommand) (status : Status) (detail : Byte) (data : List Byte) : State :=
  let a : Answer := { dest := c.origin, tag := c.tag, code := c.code, status := status, detail := detail, data := data }
  (s.withRing { s.ring with answers := s.ring.answers ++ [a] }).withMgmt
    { s.mgmt with
      queue := s.mgmt.queue.drop 1, deferred := none
      cache := (if 4 ≤ s.mgmt.cache.length then s.mgmt.cache.drop 1 else s.mgmt.cache) ++ [a] }

/-- Everything of the unit but the flows, the pool, the groups and the notices is as before. -/
def State.sameElsewhere (s t : State) : Prop :=
  t.lane = s.lane ∧ t.ring = s.ring ∧ t.mgmt = s.mgmt ∧ t.choices = s.choices ∧ t.pending = s.pending

/-- The unit after a tick that brings no timer but a notice's to its end (R73, R77, R98, R138, R155): every running timer
of a flow one on, the gap timer one on up to 2, the lease one down, the Notice Unit's own work done. -/
def State.ticked (s : State) : State :=
  { s with
    flows := Vector.ofFn fun f : FlowIx =>
      { s.flow f with
        rt := { (s.flow f).rt with
          silence := (s.flow f).rt.silence.map (· + 1), drain := (s.flow f).rt.drain.map (· + 1) } }
    lane := { s.lane with gap := if s.lane.gap < 2 then s.lane.gap + 1 else 2 }
    mgmt := { s.mgmt with claim := { s.mgmt.claim with lease := s.mgmt.claim.lease - 1 } }
    notice := s.noticeTick.notice }

/-- An entry after its retry timer has advanced by 1 (R155 step 1): the timer of an entry that is due already stays. -/
def NoticeEntry.later (e : NoticeEntry) : NoticeEntry :=
  match e.condition with
  | .sent m j => { e with condition := .sent (if m < j then m + 1 else m) j }
  | .pending => e

/-- The entry's retry timer has reached its interval in use (R155 step 1). -/
def NoticeEntry.isDue (e : NoticeEntry) : Bool :=
  match e.condition with
  | .sent m j => decide (j ≤ m)
  | .pending => false

/-- The entries a tick gives up (R155 step 2): due then, at a send count of 3 or more. -/
def NoticeUnit.leaving (n : NoticeUnit) : List NoticeEntry :=
  (n.entries.map NoticeEntry.later).filter fun e => e.isDue && decide (3 ≤ e.sendCount)

/-- The entries a tick does not give up, their timers advanced (R155 steps 1 and 2). -/
def NoticeUnit.staying (n : NoticeUnit) : List NoticeEntry :=
  (n.entries.map NoticeEntry.later).filter fun e => !(e.isDue && decide (3 ≤ e.sendCount))

/-- The frame on offer once a tick has given up its entries (R155 step 2): withdrawn if it was one of theirs. -/
def NoticeUnit.offerStaying (n : NoticeUnit) : Option Offer :=
  n.offer.filter fun o => n.leaving.all fun e => e.number != o.number

/-- The frame of an entry (R155 step 4, R156): to the claim holder, to address 0 with none, or, for CLAIM_LOST, to the
former holder. -/
def NoticeEntry.frameFor (e : NoticeEntry) (holder : Option Addr) : Offer :=
  { dest := if e.kind = .claimLost then e.fixedDest.getD 0 else holder.getD 0
    number := e.number, kind := e.kind, subject := e.subject, detail := e.detail, repeats := e.repeats }

/-- The command row, claim and length of each execution that has a code of its own (Tables 8-2, 11-4 and 11-5). -/
def executionOf : Instr → Option (Byte × Nat × Bool)
  | .statusGet => some (0x01, 0, false)
  | .flowSet => some (0x02, 19, true)
  | .flowGet => some (0x03, 1, false)
  | .flowEnable => some (0x04, 1, true)
  | .flowDisable => some (0x05, 1, true)
  | .flowRestart => some (0x06, 1, true)
  | .groupSet => some (0x07, 5, true)
  | .groupGet => some (0x08, 1, false)
  | .mapSet => some (0x09, 5, true)
  | .mapGet => some (0x0A, 1, false)
  | .laneSet => some (0x0B, 3, true)
  | .countersGet => some (0x0C, 2, false)
  | .unitSet => some (0x0D, 6, true)
  | .unitResetCounters => some (0x0E, 1, true)
  | .unitResetPlayout => some (0x0E, 1, true)
  | .unitResetConfig => some (0x0E, 1, true)
  | .claim => some (0x0F, 2, false)
  | .release => some (0x10, 0, false)
  | _ => none

/-- The scope a UNIT_RESET row names (Table 11-4). -/
def scopeOf : Instr → Option Byte
  | .unitResetCounters => some 0
  | .unitResetPlayout => some 1
  | .unitResetConfig => some 2
  | _ => none

end Sys2Proof.Machine
end

