-- ==== Sys2Proof/Certificates/Slice0/Obligations.lean ====
section
/-! DEFINITION. The statements for the provers. Each is about the meanings of Machine/, in the words of Safety.lean; what
each says, and which rule of spec/ it comes from, stands in OBLIGATIONS.json. -/

section

open Sys2Proof Sys2Proof.Machine

/-! ### Steps -/

/-- A step takes the command at the front of the queue and executes it on the state with the queue's rest; on an empty
queue the unit idles (log entry 1). -/
def Obligations.StepTakesFrontCommand : Prop :=
  (∀ (c : Instr) (rest : List Instr) (s : State),
     step { s with pending := c :: rest } = exec c { s with pending := rest }) ∧
  (∀ s : State, s.pending = [] → step s = .next s)

/-- No command stops the unit, and none touches the queue of the commands that wait (00, Conventions: errors are
counters, answers and notices; log entry 1). -/
def Obligations.EveryCommandEndsInNextState : Prop :=
  ∀ (c : Instr) (s : State), ∃ t : State, exec c s = .next t ∧ t.pending = s.pending

/-! ### Pin reset and the laws of the unit -/

/-- PIN_RESET, every value it leaves (R8, R27, R42, R56, R58, R95, R101, R107, R110, R112, R119, R125, R126, R134, R136,
R149, R161). The line's carrier level stays, and with it present the carrier-present event is taken at once (R112). -/
def Obligations.PinResetSetsEveryBlock : Prop :=
  ∀ s : State, ∃ t : State, exec .pinReset s = .next t ∧
    (∀ f : FlowIx, t.flow f =
      { record := { tag := 0, channels := 2, mode := .fixedFull, depth := 8, prime := 3, holdLimit := 8, fade := 4,
                    exit := .atOnce, conceal := .repeatLast, late := 0, cut := 100, tap := .tap, crc := .discard,
                    group := none }
        window := { head := 0, entries := Vector.replicate 32 .empty }
        held := 0
        counters := Vector.replicate 12 0
        rt := { state := .disabled, readIndex := 0, blockLen := none, holdCount := 0, fadeStage := 0,
                lastFrame := none, lastLen := none, silence := none, late := false, drain := none } }) ∧
    t.pool = { free := 384, threshold := 0, armed := true } ∧
    (∀ g : GroupIx, t.group g =
      { state := .forming, pilot := none, target := 4, hysteresis := 1, interval := 16, debt := 0, count := 0,
        slipDone := false }) ∧
    (t.lane.status = .absent ∧ t.lane.gap = 2 ∧ t.lane.run = 0 ∧ t.lane.map = Vector.replicate 64 .silence ∧
      t.lane.lanes = Vector.replicate 4 { enable := false, mute := false }) ∧
    (t.ring.own = 63 ∧ t.ring.answers = [] ∧ t.ring.headerErrors = 0 ∧ t.ring.orphans = 0 ∧ t.ring.goodRun = 0 ∧
      t.ring.badRun = 0 ∧ t.ring.carrier = s.ring.carrier ∧
      t.ring.rx = if s.ring.carrier = true then .acquiring else .down) ∧
    t.mgmt = { queue := [], deferred := none, claim := { holder := none, lease := 0, length := 0 }, cache := [],
               crcErrors := 0, lost := 0, absorbed := 0 } ∧
    t.notice = { mask := 0, entries := [], overflow := false, retry := 20, nextNumber := 0, offer := none, lost := 0,
                 acksIgnored := 0 }

/-- The state after reset meets every law that the statements below say a step keeps. -/
def Obligations.LawsHoldAtReset : Prop :=
  State.reset.PoolLawful ∧ State.reset.HeadsLawful ∧ State.reset.ReadsLawful ∧ State.reset.TagsLawful ∧
    State.reset.GroupsLawful ∧ State.reset.ReferencesLawful ∧ State.reset.ManagementLawful ∧
    State.reset.DrainLawful ∧ State.reset.mgmt.claim.Lawful ∧ State.reset.notice.Lawful ∧
    State.reset.notice.NumbersDistinct

/-- Every step keeps the law of windows and pool (R24, R25, R44, R46), and with it the law of heads, the table of R24:
entry 0 of a READY or PLAYING flow HELD, of a HOLDING flow SPENT, of a DRAINING flow as in the state its drain began in
(the law of a drain, which StepKeepsManagementLaws says a step keeps, rules out a UNIT_RESET during a drain: R143). -/
def Obligations.StepKeepsPoolLaw : Prop :=
  (∀ s t : State, s.PoolLawful → step s = .next t → t.PoolLawful) ∧
  (∀ s t : State, s.PoolLawful → s.DrainLawful → s.HeadsLawful → step s = .next t → t.HeadsLawful)

/-- Every step keeps the law of read indexes (R57, R63). -/
def Obligations.StepKeepsReadIndexLaw : Prop :=
  ∀ s t : State, s.ReadsLawful → step s = .next t → t.ReadsLawful

/-- Every step keeps the law of stream tags (R16, R17). -/
def Obligations.StepKeepsTagLaw : Prop :=
  ∀ s t : State, s.TagsLawful → step s = .next t → t.TagsLawful

/-- Every step keeps the slip debt of every group between -8 and +8, and at 0 while the group is FORMING (R91); and the law
of references: a RUNNING group has one, a FORMING group none (R82, R83). -/
def Obligations.StepKeepsGroupLaws : Prop :=
  (∀ s t : State, s.GroupsLawful → step s = .next t → t.GroupsLawful) ∧
  (∀ s t : State, s.ReferencesLawful → step s = .next t → t.ReferencesLawful)

/-- Every step keeps the law of the command queue, the answer queue and the answer cache (R126, R130, R134), the law of
the claim record (R136), and the law of a drain: the DRAINING flow is the one for which the FLOW_DISABLE at the front of
the command queue waits, and the lane clock is PRESENT (R76, R77, R142, R143). -/
def Obligations.StepKeepsManagementLaws : Prop :=
  (∀ s t : State, s.ManagementLawful → step s = .next t → t.ManagementLawful) ∧
  (∀ s t : State, s.mgmt.claim.Lawful → step s = .next t → t.mgmt.claim.Lawful) ∧
  (∀ s t : State, s.DrainLawful → step s = .next t → t.DrainLawful)

/-- Every step keeps the law of the notice list (R152) and the distinctness of notice numbers (R153). -/
def Obligations.StepKeepsNoticeLaw : Prop :=
  ∀ s t : State, s.notice.Lawful → s.notice.NumbersDistinct → step s = .next t →
    t.notice.Lawful ∧ t.notice.NumbersDistinct

/-! ### The ring port -/

/-- Receive synchronisation: the rows of Table 7-2, in its order (R111, and R112 for an entry into DOWN with the carrier
present). THE MODEL'S CHOICE in it: that the carrier level is a value of the state (log entry 9), that the alignment is a
number modulo 308 (log entry 10), and, as an inference, the content of the FILL in the place of a frame with a bad header
(log entry 19). -/
def Obligations.ReceiveSynchronisationFollowsTable : Prop :=
  ∀ (s : State) (frame : List Byte), frame.length = 308 →
    (s.ring.rx = .down →
      exec .carrierPresent s = .next (s.withRing { s.ring with carrier := true, rx := .acquiring, goodRun := 0 }) ∧
      exec (.frameReceived frame) s = .next s) ∧
    (s.ring.rx = .acquiring → goodHeader frame = true → s.ring.goodRun < 7 →
      exec (.frameReceived frame) s = .next (s.withRing { s.ring with goodRun := s.ring.goodRun + 1 })) ∧
    (s.ring.rx = .acquiring → goodHeader frame = true → s.ring.goodRun = 7 →
      exec (.frameReceived frame) s =
        .next ((s.withRing { s.ring with rx := .up, goodRun := 0, badRun := 0 }).withNotice
          (s.notice.take { kind := .ringIn, subject := .none, detail := 1, dest := none }))) ∧
    (s.ring.rx = .acquiring → goodHeader frame = false →
      exec (.frameReceived frame) s =
        .next (s.withRing { s.ring with goodRun := 0, alignment := (s.ring.alignment + 1) % 308 })) ∧
    (s.ring.rx = .acquiring →
      exec .carrierLoss s = .next (s.withRing { s.ring with carrier := false, rx := .down, goodRun := 0 })) ∧
    (s.ring.rx = .up → goodHeader frame = true →
      exec (.frameReceived frame) s = .next ((s.withRing { s.ring with badRun := 0 }).decideFrame frame)) ∧
    (s.ring.rx = .up → goodHeader frame = false → s.ring.badRun < 3 →
      exec (.frameReceived frame) s =
        .next (s.withRing { s.ring with badRun := s.ring.badRun + 1, headerErrors := s.ring.headerErrors + 1,
                                        ringOut := some (fillFrame s.ring.own) })) ∧
    (s.ring.rx = .up → goodHeader frame = false → s.ring.badRun = 3 →
      exec (.frameReceived frame) s =
        .next ((s.withRing { s.ring with
            badRun := 0, headerErrors := s.ring.headerErrors + 1, ringOut := some (fillFrame s.ring.own)
            rx := if s.ring.carrier = true then .acquiring else .down
            goodRun := if s.ring.carrier = true then 0 else s.ring.goodRun }).withNotice
          (s.notice.take { kind := .ringIn, subject := .none, detail := 0, dest := none }))) ∧
    (s.ring.rx = .up →
      exec .carrierLoss s =
        .next ((s.withRing { s.ring with carrier := false, rx := .down, badRun := 0 }).withNotice
          (s.notice.take { kind := .ringIn, subject := .none, detail := 0, dest := none }))) ∧
    (s.ring.rx ≠ .down → exec .carrierPresent s = .next (s.withRing { s.ring with carrier := true })) ∧
    (s.ring.rx = .down → exec .carrierLoss s = .next (s.withRing { s.ring with carrier := false }))

/-- The decision for a frame received in UP with a good header: the rows of Table 7-3 (R116). `X` is the unit with the
bad-header run cleared (R111). -/
def Obligations.ReceivedFrameIsDecidedByTable : Prop :=
  ∀ (s : State) (frame : List Byte), s.ring.rx = .up → frame.length = 308 → goodHeader frame = true →
    let X := s.withRing { s.ring with badRun := 0 }
    let own := s.ring.own ≠ 63 ∧ frameOrigin frame = s.ring.own
    (kindCode frame = 0 → exec (.frameReceived frame) s = .next X.insertFrame) ∧
    (kindCode frame ≠ 0 → own → exec (.frameReceived frame) s = .next X.insertFrame) ∧
    (kindCode frame ≠ 0 → ¬ own → hopCount frame = 63 →
      exec (.frameReceived frame) s =
        .next (X.withRing { X.ring with orphans := s.ring.orphans + 1 }).insertFrame) ∧
    (kindCode frame = 1 → ¬ own → hopCount frame ≠ 63 →
      (s.holderOfTag (sampleTag frame) = none →
        exec (.frameReceived frame) s = .next (X.emit (forwardFrame frame))) ∧
      (∀ f : FlowIx, s.holderOfTag (sampleTag frame) = some f → (s.flow f).record.tap = .tap →
        exec (.frameReceived frame) s = .next ((X.matched f frame).emit (forwardFrame frame))) ∧
      (∀ f : FlowIx, s.holderOfTag (sampleTag frame) = some f → (s.flow f).record.tap = .take →
        exec (.frameReceived frame) s = .next (X.matched f frame).insertFrame)) ∧
    (kindCode frame = 2 → ¬ own → hopCount frame ≠ 63 → s.ring.own ≠ 63 → frameDest frame = s.ring.own →
      exec (.frameReceived frame) s = .next (X.takeCommand frame).insertFrame) ∧
    (kindCode frame = 2 → ¬ own → hopCount frame ≠ 63 → s.ring.own ≠ 63 → frameDest frame = 62 →
      s.ring.own ≠ 62 →
      exec (.frameReceived frame) s = .next ((X.takeCommand frame).emit (forwardFrame frame))) ∧
    (kindCode frame = 5 → ¬ own → hopCount frame ≠ 63 →
      exec (.frameReceived frame) s =
        .next ((X.rollcall frame).1.emit (forwardFrame (X.rollcall frame).2))) ∧
    (kindCode frame = 2 → ¬ own → hopCount frame ≠ 63 →
      (s.ring.own = 63 ∨ (frameDest frame ≠ s.ring.own ∧ frameDest frame ≠ 62)) →
      exec (.frameReceived frame) s = .next (X.emit (forwardFrame frame))) ∧
    ((kindCode frame = 3 ∨ kindCode frame = 4) → ¬ own → hopCount frame ≠ 63 →
      exec (.frameReceived frame) s = .next (X.emit (forwardFrame frame)))

/-- An insertion, in the order of preference of R118. The opportunities shown are a frame emitted at the unit's own rate in
DOWN and ACQUIRING (R115) and a FILL frame received in UP (R114, R116 row 1); in UP there is no frame at the unit's own
rate and nothing happens (log entry 2). The insertions that follow a stripped frame are the same `insertFrame`
(ReceivedFrameIsDecidedByTable). -/
def Obligations.InsertionPrefersAnswerThenNotice : Prop :=
  ((∀ s : State, s.ring.rx = .up → exec .ownRateFrame s = .next s) ∧
   (∀ s : State, s.ring.rx ≠ .up → exec .ownRateFrame s = .next s.insertFrame) ∧
   (∀ (s : State) (frame : List Byte), s.ring.rx = .up → frame.length = 308 → goodHeader frame = true →
     kindCode frame = 0 →
     exec (.frameReceived frame) s = .next (s.withRing { s.ring with badRun := 0 }).insertFrame)) ∧
  ∀ s : State,
    (s.ring.own ≠ 63 → ∀ a rest, s.ring.answers = a :: rest →
      s.insertFrame = s.withRing { s.ring with answers := rest, ringOut := some (answerFrame s.ring.own a) }) ∧
    (s.ring.own ≠ 63 → s.ring.answers = [] → ∀ o, s.notice.offer = some o →
      s.insertFrame = (s.withRing { s.ring with ringOut := some (noticeFrame s.ring.own o) }).withNotice
        { s.notice with offer := none }) ∧
    (s.ring.own ≠ 63 → s.ring.answers = [] → s.notice.offer = none →
      s.insertFrame = s.withRing { s.ring with ringOut := some (fillFrame s.ring.own) }) ∧
    (s.ring.own = 63 → s.insertFrame = s.withRing { s.ring with ringOut := some (fillFrame 63) })

/-- Every frame the unit inserts is 308 bytes long, has a good header and a good body CRC, hop count 0 and the own address as
origin, and carries its fields where Tables 11-1 and 11-2 put them, with the status codes of Table 11-6 and the kind codes
of Table 11-7 (R118, R170, R171, R174); a forwarded frame leaves with
its hop count one higher and a good header check, and with every other byte as received (R117). -/
def Obligations.SentFramesAreWellFormed : Prop :=
  (∀ (own : Addr) (a : Answer) (o : Offer),
     (∀ frame ∈ [fillFrame own, answerFrame own a, noticeFrame own o],
       frame.length = 308 ∧ goodHeader frame = true ∧ bodyGood frame = true ∧ hopCount frame = 0 ∧
         frameOrigin frame = own) ∧
     (kindCode (fillFrame own) = 0 ∧ frameDest (fillFrame own) = 63 ∧
       ∀ i, 10 ≤ i → i < 306 → byteAt (fillFrame own) i = 0) ∧
     (kindCode (answerFrame own a) = 3 ∧ frameDest (answerFrame own a) = a.dest ∧
       byteAt (answerFrame own a) 4 = a.tag ∧ byteAt (answerFrame own a) 5 = a.code ∧
       byteAt (answerFrame own a) 6 =
         (match a.status with
           | .done => 0 | .queueFull => 1 | .notHolder => 2 | .claimed => 3 | .badIndex => 4 | .badState => 5
           | .invalidField => 6 | .tagInUse => 7 | .noReservation => 8 | .groupMismatch => 9
           | .unknownCommand => 10) ∧
       byteAt (answerFrame own a) 7 = a.detail ∧
       ∀ i, i < 296 → byteAt (answerFrame own a) (10 + i) = byteAt a.data i) ∧
     (kindCode (noticeFrame own o) = 4 ∧ frameDest (noticeFrame own o) = o.dest ∧
       byteAt (noticeFrame own o) 4 = o.number ∧
       noticeCode o.kind =
         (match o.kind with
           | .flowState => 0 | .flowLate => 1 | .counterWrap => 2 | .poolLow => 3 | .groupResync => 4
           | .laneClock => 5 | .ringIn => 6 | .claimLost => 7 | .overflow => 8) ∧
       byteAt (noticeFrame own o) 5 = BitVec.ofNat 8 (noticeCode o.kind) ∧
       byteAt (noticeFrame own o) 6 =
         (match o.subject with | .none => 255 | .flow f => BitVec.ofNat 8 f.val | .group g => BitVec.ofNat 8 g.val) ∧
       byteAt (noticeFrame own o) 7 = o.detail ∧
       byteAt (noticeFrame own o) 10 = BitVec.ofNat 8 o.repeats ∧
       ∀ i, 11 ≤ i → i < 306 → byteAt (noticeFrame own o) i = 0)) ∧
  (∀ frame : List Byte, frame.length = 308 → goodHeader frame = true → hopCount frame < 63 →
     (forwardFrame frame).length = 308 ∧ goodHeader (forwardFrame frame) = true ∧
       hopCount (forwardFrame frame) = hopCount frame + 1 ∧
       ∀ i, i ≠ 1 → i ≠ 9 → byteAt (forwardFrame frame) i = byteAt frame i)

/-- A ROLLCALL in mode RENUMBER (R122) gives every unit it reaches the next address, or makes it unassigned, and raises the
count; one in mode FILL_IN (R123) gives an address to an unassigned unit only; one of any other mode is forwarded with its
fields unchanged, and the address is kept (R121). -/
def Obligations.RollcallSetsOwnAddress : Prop :=
  (∀ (s : State) (frame : List Byte), s.ring.rx = .up → frame.length = 308 → goodHeader frame = true →
     kindCode frame = 5 → ¬ (s.ring.own ≠ 63 ∧ frameOrigin frame = s.ring.own) → hopCount frame ≠ 63 →
     byteAt frame 4 = 1 →
     ∃ t out, exec (.frameReceived frame) s = .next t ∧ t.ring.ringOut = some out ∧
       goodHeader out = true ∧ hopCount out = hopCount frame + 1 ∧ halfAt out 6 = halfAt frame 6 + 1 ∧
       (1 ≤ (byteAt frame 5).toNat ∧ (byteAt frame 5).toNat ≤ 61 →
         t.ring.own = byteAddr (byteAt frame 5) ∧ byteAt out 5 = byteAt frame 5 + 1) ∧
       (¬ (1 ≤ (byteAt frame 5).toNat ∧ (byteAt frame 5).toNat ≤ 61) →
         t.ring.own = 63 ∧ byteAt out 5 = byteAt frame 5) ∧
       (t.ring.own = s.ring.own → t.notice = s.notice) ∧
       (t.ring.own ≠ s.ring.own → t.notice = s.notice.addressChanged) ∧
       t.ring.answers = s.ring.answers ∧ t.flows = s.flows ∧ t.pool = s.pool ∧ t.groups = s.groups ∧
       t.lane = s.lane ∧ t.mgmt = s.mgmt) ∧
  (∀ (s : State) (frame : List Byte), s.ring.rx = .up → frame.length = 308 → goodHeader frame = true →
     kindCode frame = 5 → ¬ (s.ring.own ≠ 63 ∧ frameOrigin frame = s.ring.own) → hopCount frame ≠ 63 →
     byteAt frame 4 = 2 →
     let takes := s.ring.own = 63 ∧ 1 ≤ (byteAt frame 5).toNat ∧ (byteAt frame 5).toNat ≤ 61
     ∃ t out, exec (.frameReceived frame) s = .next t ∧ t.ring.ringOut = some out ∧
       goodHeader out = true ∧ hopCount out = hopCount frame + 1 ∧
       (takes → t.ring.own = byteAddr (byteAt frame 5) ∧ byteAt out 5 = byteAt frame 5 + 1 ∧
         halfAt out 6 = halfAt frame 6 + 1 ∧ t.notice = s.notice.addressChanged) ∧
       (¬ takes → t.ring.own = s.ring.own ∧ byteAt out 5 = byteAt frame 5 ∧ halfAt out 6 = halfAt frame 6 ∧
         t.notice = s.notice) ∧
       t.ring.answers = s.ring.answers ∧ t.flows = s.flows ∧ t.pool = s.pool ∧ t.groups = s.groups ∧
       t.lane = s.lane ∧ t.mgmt = s.mgmt) ∧
  (∀ (s : State) (frame : List Byte), s.ring.rx = .up → frame.length = 308 → goodHeader frame = true →
     kindCode frame = 5 → ¬ (s.ring.own ≠ 63 ∧ frameOrigin frame = s.ring.own) → hopCount frame ≠ 63 →
     byteAt frame 4 ≠ 1 → byteAt frame 4 ≠ 2 →
     exec (.frameReceived frame) s =
       .next (s.withRing { s.ring with badRun := 0, ringOut := some (forwardFrame frame) }))

/-! ### Taking commands -/

/-- A frame with a bad body CRC, or from origin 62 or 63, is dropped and counted; a NOTICE_ACK goes to the Notice Unit (R127,
R128); a retransmission is absorbed while its command is queued, and answered from the cache after that (R129). -/
def Obligations.TakingChecksFrameThenRepeats : Prop :=
  (∀ (s : State) (frame : List Byte),
     (bodyGood frame = false →
       s.takeCommand frame = s.withMgmt { s.mgmt with crcErrors := s.mgmt.crcErrors + 1 }) ∧
     (bodyGood frame = true → (frameOrigin frame = 62 ∨ frameOrigin frame = 63) →
       s.takeCommand frame = s.withMgmt { s.mgmt with lost := s.mgmt.lost + 1 }) ∧
     (bodyGood frame = true → frameOrigin frame ≠ 62 → frameOrigin frame ≠ 63 → byteAt frame 5 = 0x11 →
       s.takeCommand frame = s.withNotice (s.notice.acknowledge (byteAt frame 10)))) ∧
  (∀ (s : State) (frame : List Byte), bodyGood frame = true → frameOrigin frame ≠ 62 → frameOrigin frame ≠ 63 →
     byteAt frame 5 ≠ 0x11 →
     let known := ∃ c ∈ s.mgmt.queue, c.origin = frameOrigin frame ∧ c.tag = byteAt frame 4
     (known → s.takeCommand frame = s.withMgmt { s.mgmt with absorbed := s.mgmt.absorbed + 1 }) ∧
     (¬ known → ∀ before a behind, s.mgmt.cache = before ++ a :: behind → a.dest = frameOrigin frame →
       a.tag = byteAt frame 4 → (∀ b ∈ before, ¬ (b.dest = frameOrigin frame ∧ b.tag = byteAt frame 4)) →
       (s.ring.answers.length + s.mgmt.queue.length < 8 →
         s.takeCommand frame = s.withRing { s.ring with answers := s.ring.answers ++ [a] }) ∧
       (8 ≤ s.ring.answers.length + s.mgmt.queue.length →
         s.takeCommand frame = s.withMgmt { s.mgmt with lost := s.mgmt.lost + 1 })))

/-- A new command is queued, refused with QUEUE_FULL or dropped, by the commands held and the answer room (R130). -/
def Obligations.NewCommandNeedsAnswerRoom : Prop :=
  ∀ (s : State) (frame : List Byte), bodyGood frame = true → frameOrigin frame ≠ 62 → frameOrigin frame ≠ 63 →
    byteAt frame 5 ≠ 0x11 →
    (∀ c ∈ s.mgmt.queue, ¬ (c.origin = frameOrigin frame ∧ c.tag = byteAt frame 4)) →
    (∀ a ∈ s.mgmt.cache, ¬ (a.dest = frameOrigin frame ∧ a.tag = byteAt frame 4)) →
    let room := 8 - s.ring.answers.length - s.mgmt.queue.length
    let length := (halfAt frame 6).toNat
    (1 ≤ room → s.mgmt.queue.length < 4 →
      s.takeCommand frame =
        s.withMgmt { s.mgmt with
          queue := s.mgmt.queue ++
            [{ origin := frameOrigin frame, tag := byteAt frame 4, code := byteAt frame 5, length := length,
               params := (frameBody frame).take length }] }) ∧
    (1 ≤ room → 4 ≤ s.mgmt.queue.length →
      s.takeCommand frame =
        s.withRing { s.ring with
          answers := s.ring.answers ++
            [{ dest := frameOrigin frame, tag := byteAt frame 4, code := byteAt frame 5, status := .queueFull,
               detail := 0, data := [] }] }) ∧
    (room = 0 → s.takeCommand frame = s.withMgmt { s.mgmt with lost := s.mgmt.lost + 1 })

/-! ### Stream match and placement -/

/-- A frame matched to a flow: discarded uncounted while it drains (R11), checked against its format (R12) and its body CRC
by the CRC policy (R13), and otherwise handed over as an arrival (R14); the block it carries has its sequence number, its
length by the HALF flag, and the sample of sample frame `i`, channel `c` from body byte 3 × (i × C + c), high byte first
(R172). -/
def Obligations.MatchedFrameIsChecked : Prop :=
  (∀ (s : State) (f : FlowIx) (frame : List Byte),
     let r := (s.flow f).record
     let fits := sampleChannels frame = r.channels ∧
       (r.mode = .fixedFull → halfFlag frame = false) ∧ (r.mode = .fixedHalf → halfFlag frame = true)
     ((s.flow f).rt.state.isDraining = true → s.matched f frame = s) ∧
     ((s.flow f).rt.state.isDraining = false → ¬ fits → s.matched f frame = s.counted f .formatErrors) ∧
     ((s.flow f).rt.state.isDraining = false → fits → bodyGood frame = true →
       s.matched f frame = s.arrive f (sampleBlock frame false)) ∧
     ((s.flow f).rt.state.isDraining = false → fits → bodyGood frame = false → r.crc = .discard →
       s.matched f frame = s.counted f .crcErrors) ∧
     ((s.flow f).rt.state.isDraining = false → fits → bodyGood frame = false → r.crc = .keep →
       s.matched f frame = (s.counted f .crcErrors).arrive f (sampleBlock frame true))) ∧
  (∀ (frame : List Byte) (mark : Bool), frame.length = 308 →
     let b := sampleBlock frame mark
     b.seq = halfAt frame 6 ∧ b.length = (if halfFlag frame = true then 6 else 12) ∧
       b.channels = ((byteAt frame 3).extractLsb' 0 3).toNat + 1 ∧ b.crcBad = mark ∧
       ∀ i c, i < b.length → c < b.channels →
         (b.frame i)[c]? =
           some (byteAt frame (10 + 3 * (i * b.channels + c)) ++ byteAt frame (10 + 3 * (i * b.channels + c) + 1) ++
             byteAt frame (10 + 3 * (i * b.channels + c) + 2)))

/-- The offset of an arrival and the bands of the placement (R21, R22): the distance from the head modulo 65536 read as
signed, and exactly one of jump, behind, inside and beyond. -/
def Obligations.OffsetFallsInOneBand : Prop :=
  ∀ (q h : Half) (depth : Nat), 2 ≤ depth → depth ≤ 32 →
    let m := (65536 + q.toNat - h.toNat) % 65536
    let d := seqOffset q h
    d = (if m ≤ 32767 then (m : Int) else (m : Int) - 65536) ∧
      ((jumps d = true ∧ ¬ (-511 ≤ d ∧ d ≤ -1) ∧ ¬ (0 ≤ d ∧ d < depth) ∧ ¬ ((depth : Int) ≤ d ∧ d ≤ 511)) ∨
        (jumps d = false ∧ (-511 ≤ d ∧ d ≤ -1) ∧ ¬ (0 ≤ d ∧ d < depth) ∧ liesBeyond depth d = false) ∨
        (jumps d = false ∧ ¬ (-511 ≤ d ∧ d ≤ -1) ∧ (0 ≤ d ∧ d < depth) ∧ liesBeyond depth d = false) ∨
        (jumps d = false ∧ ¬ (-511 ≤ d ∧ d ≤ -1) ∧ ¬ (0 ≤ d ∧ d < depth) ∧ liesBeyond depth d = true ∧ d ≤ 511))

/-- A start (R29): the head set to the block's number, the block in entry 0, one buffer granted, ACCEPTED counted, the
silence timer from 0 with the late flag clear, and PRIMING, or READY at once where the prime depth is 1 (R34, R35,
Table 4-4). A POOL_LOW of the grant stands before
ACCEPTED's COUNTER_WRAP by the model's choice (log entry 21). -/
def Obligations.StartMakesFlowPrime : Prop :=
  ∀ (s : State) (f : FlowIx) (b : Block), (s.flow f).Lawful →
    ((s.flow f).rt.state = .idle ∨ (s.flow f).rt.state = .cut) →
    s.arrive f b =
      ((s.setFlow f { (s.flow f).bump .accepted with
          window := { head := b.seq, entries := (Vector.replicate 32 Entry.empty).set 0 (.held b) }
          held := 1
          rt := { state := if (s.flow f).record.prime = 1 then .ready else .priming, readIndex := 0, blockLen := none,
                  holdCount := 0, fadeStage := 0, lastFrame := none, lastLen := none, silence := some 0,
                  late := false, drain := none } }).withPool s.pool.granted).withNotice
        (s.notice.takeAll (s.pool.lowRaises ++ s.wrapRaises f .accepted))

/-- A jump (R32): flush, head set, the block in entry 0 of an otherwise empty window, ACCEPTED and JUMPS counted, PRIMING
(or READY where the prime depth is 1), and the flow's group FORMING if it led it alone (R82). A POOL_LOW of the grant stands before
ACCEPTED's COUNTER_WRAP by the model's choice (log entry 21). -/
def Obligations.JumpStartsFlowAgain : Prop :=
  ∀ (s : State) (f : FlowIx) (b : Block), (s.flow f).Lawful →
    ((s.flow f).rt.state = .priming ∨ (s.flow f).rt.state = .ready ∨ (s.flow f).rt.state = .playing ∨
      (s.flow f).rt.state = .holding) →
    (512 ≤ seqOffset b.seq (s.flow f).window.head ∨ seqOffset b.seq (s.flow f).window.head ≤ -512) →
    let t := s.arrive f b
    t.flow f =
        { ((s.flow f).bump .accepted).bump .jumps with
          window := { head := b.seq, entries := (Vector.replicate 32 Entry.empty).set 0 (.held b) }
          held := 1
          rt := { state := if (s.flow f).record.prime = 1 then .ready else .priming, readIndex := 0, blockLen := none,
                  holdCount := 0, fadeStage := 0, lastFrame := none, lastLen := none, silence := some 0,
                  late := false, drain := none } } ∧
      (∀ x : FlowIx, x ≠ f → t.flow x = s.flow x) ∧
      t.pool = (s.pool.released (s.flow f).held).granted ∧
      t.notice = s.notice.takeAll ((s.pool.released (s.flow f).held).lowRaises ++ s.wrapRaises f .accepted ++
        s.wrapRaises f .jumps) ∧
      s.groupsAfterLoss t f ∧ s.sameElsewhere t

/-- The four discards (R33): late, late for a SPENT head, duplicate and beyond. Each counts one counter and changes
nothing else. -/
def Obligations.DiscardCountsOneCounter : Prop :=
  ∀ (s : State) (f : FlowIx) (b : Block),
    ((s.flow f).rt.state = .priming ∨ (s.flow f).rt.state = .ready ∨ (s.flow f).rt.state = .playing ∨
      (s.flow f).rt.state = .holding) →
    let w := (s.flow f).window
    let depth := (s.flow f).record.depth
    let d := seqOffset b.seq w.head
    (-511 ≤ d → d ≤ -1 → ((s.flow f).rt.state = .priming → d < -((depth : Int) - 1 - w.highest)) →
      s.arrive f b = s.counted f .late) ∧
    (d = 0 → w.entryAt 0 = .spent → s.arrive f b = s.counted f .late) ∧
    (0 ≤ d → d < depth → d ≤ 511 → (w.entryAt d.toNat).isHeld = true → s.arrive f b = s.counted f .duplicate) ∧
    ((depth : Int) ≤ d → d ≤ 511 → (0 < d ∨ w.entryAt 0 ≠ .spent) → s.arrive f b = s.counted f .beyond)

/-- A normal placement (R34, R35, R48): granted where the flow is below its prime depth or a shared buffer is free, it
puts the block into its EMPTY entry and may complete the prime; refused, it counts NO_BUFFER alone. A POOL_LOW of the grant stands before
ACCEPTED's COUNTER_WRAP by the model's choice (log entry 21). -/
def Obligations.NormalPlacementNeedsBuffer : Prop :=
  ∀ (s : State) (f : FlowIx) (b : Block), (s.flow f).Lawful →
    ((s.flow f).rt.state = .priming ∨ (s.flow f).rt.state = .ready ∨ (s.flow f).rt.state = .playing ∨
      (s.flow f).rt.state = .holding) →
    let fl := s.flow f
    let d := seqOffset b.seq fl.window.head
    0 ≤ d → d < fl.record.depth → fl.window.entryAt d.toNat = .empty →
    let w := fl.window.withEntry d.toNat (.held b)
    let grant := fl.held < fl.record.prime ∨ 0 < s.pool.free - s.outstanding
    (grant →
      s.arrive f b =
        ((s.setFlow f { fl.bump .accepted with
            window := w
            held := fl.held + 1
            rt := { fl.rt with
              silence := some 0, late := false
              state := if fl.rt.state = .priming ∧ fl.record.prime ≤ w.contiguous then .ready else fl.rt.state
              } }).withPool s.pool.granted).withNotice
          (s.notice.takeAll (s.pool.lowRaises ++ s.wrapRaises f .accepted))) ∧
    (¬ grant → s.arrive f b = s.counted f .noBuffer)

/-- A priming rebase (R31): the head moves back to the block's number, every entry moves up with it, and the block goes
into entry 0; refused, it counts NO_BUFFER alone; an arrival further behind than the held blocks allow is late. A POOL_LOW of the grant stands before
ACCEPTED's COUNTER_WRAP by the model's choice (log entry 21). -/
def Obligations.PrimingRebaseMovesHeadBack : Prop :=
  ∀ (s : State) (f : FlowIx) (b : Block), (s.flow f).Lawful → (s.flow f).rt.state = .priming →
    let fl := s.flow f
    let d := seqOffset b.seq fl.window.head
    let furthest : Int := -((fl.record.depth : Int) - 1 - fl.window.highest)
    let grant := fl.held < fl.record.prime ∨ 0 < s.pool.free - s.outstanding
    (furthest ≤ d → d ≤ -1 → grant → ∃ w : Window,
      (w.head = b.seq ∧ w.entryAt 0 = .held b ∧
        (∀ k : Nat, 1 ≤ k → (k : Int) < -d → w.entryAt k = .empty) ∧
        (∀ k : Nat, -d ≤ (k : Int) → k < fl.record.depth → w.entryAt k = fl.window.entryAt (k - (-d).toNat)) ∧
        (∀ k, fl.record.depth ≤ k → w.entryAt k = .empty) ∧
        w.fill = fl.window.fill + 1) ∧
      s.arrive f b =
        ((s.setFlow f { fl.bump .accepted with
            window := w
            held := fl.held + 1
            rt := { fl.rt with
              silence := some 0, late := false
              state := if fl.record.prime ≤ w.contiguous then .ready else .priming } }).withPool
          s.pool.granted).withNotice (s.notice.takeAll (s.pool.lowRaises ++ s.wrapRaises f .accepted))) ∧
    (furthest ≤ d → d ≤ -1 → ¬ grant → s.arrive f b = s.counted f .noBuffer) ∧
    (-511 ≤ d → d < furthest → s.arrive f b = s.counted f .late)

/-! ### Block boundaries -/

/-- A boundary that is not due does nothing (R63; log entry 2), and one still due when an edge comes is taken first (R63: the
next lane frame start presents from whatever the boundary left; log entry 6). -/
def Obligations.BoundaryIsTakenOnlyWhenDue : Prop :=
  (∀ (s : State) (f : FlowIx),
     ¬ (((s.flow f).rt.state = .playing ∨ (s.flow f).rt.state = .holding ∨ (s.flow f).rt.state.isDraining = true) ∧
       (s.flow f).rt.blockLen = some (s.flow f).rt.readIndex) →
     exec (.blockBoundary f) s = .next s) ∧
  (∀ (s t : State) (f : FlowIx), (s.flow f).boundaryDue = true →
     (∀ x : FlowIx, x ≠ f → (s.flow x).boundaryDue = false) → exec (.blockBoundary f) s = .next t →
     (∀ x : FlowIx, (t.flow x).boundaryDue = false) → exec .frameSyncEdge s = exec .frameSyncEdge t)

/-- The boundary of a flow in PLAYING (R65): the last sample frame kept, PLAYED counted, the head released and advanced;
then the next block from its start, or HOLDING with the new head SPENT, CONCEALED counted and FLOW_STATE(HOLDING)
raised. -/
def Obligations.PlayingBoundaryPlaysNextOrHolds : Prop :=
  ∀ (s : State) (f : FlowIx) (b : Block), (s.flow f).Lawful → (s.flow f).rt.state = .playing →
    (s.flow f).rt.blockLen = some (s.flow f).rt.readIndex → (s.flow f).window.entryAt 0 = .held b →
    let fl := s.flow f
    let w := fl.window.advanced fl.record.depth
    (∀ b' : Block, fl.window.entryAt 1 = .held b' →
      s.boundaryGives f
        (((s.setFlow f { fl.bump .played with
            window := w
            held := fl.held - 1
            rt := { fl.rt with
              lastFrame := some (b.frame (b.length - 1)), lastLen := some b.length, readIndex := 0
              blockLen := some b'.length } }).withPool (s.pool.released 1)).withNotice
          (s.notice.takeAll (s.wrapRaises f .played)))) ∧
    (fl.window.entryAt 1 = .empty →
      s.boundaryGives f
        (((s.setFlow f { (fl.bump .played).bump .concealed with
            window := w.withEntry 0 .spent
            held := fl.held - 1
            rt := { fl.rt with
              state := .holding, lastFrame := some (b.frame (b.length - 1)), lastLen := some b.length
              readIndex := 0, holdCount := 1, fadeStage := fadeStageFor fl.record 1
              blockLen := some (concealLength fl.record (some b.length)) } }).withPool
          (s.pool.released 1)).withNotice
          (s.notice.takeAll (s.wrapRaises f .played ++ s.wrapRaises f .concealed ++
            [{ kind := .flowState, subject := .flow f, detail := 5, dest := none }]))))

/-- The boundary of a flow in HOLDING (R68 to R72): AT_ONCE plays a found head; REPRIME discards it while the fade runs, and
after that primes again around it, or is READY at once; an EMPTY head below the hold limit is concealed, and at the hold
limit cuts the flow. -/
def Obligations.HoldingBoundaryFollowsTable : Prop :=
  (∀ (s : State) (f : FlowIx), (s.flow f).Lawful → (s.flow f).rt.state = .holding →
     (s.flow f).rt.blockLen = some (s.flow f).rt.readIndex → (s.flow f).window.entryAt 0 = .spent →
     let fl := s.flow f
     let w := fl.window.advanced fl.record.depth
     let k := fl.rt.holdCount
     (∀ b : Block, fl.window.entryAt 1 = .held b → fl.record.exit = .atOnce →
       s.boundaryGives f
         ((s.setFlow f { fl with
             window := w
             rt := { fl.rt with
               state := .playing, readIndex := 0, blockLen := some b.length, holdCount := 0, fadeStage := 0
               } }).withNotice
           (s.notice.take { kind := .flowState, subject := .flow f, detail := 4, dest := none }))) ∧
     (∀ b : Block, fl.window.entryAt 1 = .held b → fl.record.exit = .reprime → k ≤ fl.record.fade →
       s.boundaryGives f
         (((s.setFlow f { (fl.bump .holdDiscards).bump .concealed with
             window := w.withEntry 0 .spent
             held := fl.held - 1
             rt := { fl.rt with
               readIndex := 0, blockLen := some (concealLength fl.record fl.rt.lastLen), holdCount := k + 1
               fadeStage := fadeStageFor fl.record (k + 1) } }).withPool (s.pool.released 1)).withNotice
           (s.notice.takeAll (s.wrapRaises f .holdDiscards ++ s.wrapRaises f .concealed)))) ∧
     (fl.window.entryAt 1 = .empty → k < fl.record.holdLimit →
       s.boundaryGives f
         ((s.setFlow f { fl.bump .concealed with
             window := w.withEntry 0 .spent
             rt := { fl.rt with
               readIndex := 0, blockLen := some (concealLength fl.record fl.rt.lastLen), holdCount := k + 1
               fadeStage := fadeStageFor fl.record (k + 1) } }).withNotice
           (s.notice.takeAll (s.wrapRaises f .concealed))))) ∧
  (∀ (s : State) (f : FlowIx), (s.flow f).Lawful → (s.flow f).rt.state = .holding →
     (s.flow f).rt.blockLen = some (s.flow f).rt.readIndex → (s.flow f).window.entryAt 0 = .spent →
     let fl := s.flow f
     let w := fl.window.advanced fl.record.depth
     let k := fl.rt.holdCount
     (∀ b : Block, fl.window.entryAt 1 = .held b → fl.record.exit = .reprime → fl.record.fade < k →
       ∃ t, exec (.blockBoundary f) s = .next t ∧
         t.flow f = { fl with
           window := w
           rt := { Runtime.reset with
             state := if fl.record.prime ≤ w.contiguous then .ready else .priming
             silence := fl.rt.silence, late := fl.rt.late } } ∧
         (∀ x : FlowIx, x ≠ f → t.flow x = s.flow x) ∧ t.pool = s.pool ∧ t.notice = s.notice ∧
         s.groupsAfterExit t f ∧ s.sameElsewhere t) ∧
     (fl.window.entryAt 1 = .empty → fl.record.holdLimit ≤ k →
       ∃ t, exec (.blockBoundary f) s = .next t ∧
         t.flow f = { fl with
           window := { head := fl.window.head + 1, entries := Vector.replicate 32 .empty }
           held := 0
           rt := { Runtime.reset with state := .cut, late := fl.rt.late } } ∧
         (∀ x : FlowIx, x ≠ f → t.flow x = s.flow x) ∧ t.pool = s.pool.released fl.held ∧
         t.notice = s.notice.take { kind := .flowState, subject := .flow f, detail := 6, dest := none } ∧
         s.groupsAfterExit t f ∧ s.sameElsewhere t))

/-- What the Group Slip Controller does within its reference's boundary (R86, R87): the slip-done flag cleared, the boundary
counted, at the measure interval a measurement whose step is added to the debt, and then the joins; a step that would carry
the debt past 8 resynchronises instead; a reference that no longer plays or holds clears the flag only. A
resynchronisation (R88): every member in PRIMING, READY, PLAYING or HOLDING flushed to IDLE, the group FORMING with its
runtime values cleared, GROUP_RESYNC raised; other flows and groups as before. The joins (R89): every READY member and no
other flow is joined to the reference's head; the order of several is open (log entry 3). -/
def Obligations.ReferenceBoundaryMeasures : Prop :=
  (∀ (u : State) (g : GroupIx) (f : FlowIx),
     let gr := u.group g
     let c := (u.flow f).window.contiguous
     let h := (u.flow f).window.head
     let step : Int :=
       if c > gr.target + gr.hysteresis then 1 else if (c : Int) < (gr.target : Int) - gr.hysteresis then -1 else 0
     let plays := (u.flow f).rt.state = .playing ∨ (u.flow f).rt.state = .holding
     (¬ plays → u.referenceBoundary g f = u.setGroup g { gr with slipDone := false }) ∧
     (plays → gr.count + 1 < gr.interval →
       u.referenceBoundary g f = (u.setGroup g { gr with slipDone := false, count := gr.count + 1 }).joinAll g h) ∧
     (plays → gr.interval ≤ gr.count + 1 → -8 ≤ gr.debt + step → gr.debt + step ≤ 8 →
       u.referenceBoundary g f =
         (u.setGroup g { gr with slipDone := false, count := 0, debt := gr.debt + step }).joinAll g h) ∧
     (plays → gr.interval ≤ gr.count + 1 → (gr.debt + step < -8 ∨ 8 < gr.debt + step) →
       u.referenceBoundary g f = u.resync g)) ∧
  (∀ (u : State) (g : GroupIx),
     let t := u.resync g
     let hit (f : FlowIx) := (u.flow f).record.group = some g ∧
       ((u.flow f).rt.state = .priming ∨ (u.flow f).rt.state = .ready ∨ (u.flow f).rt.state = .playing ∨
         (u.flow f).rt.state = .holding)
     (∀ f : FlowIx, hit f → t.flow f = (u.flow f).emptied { Runtime.reset with state := .idle }) ∧
     (∀ f : FlowIx, ¬ hit f → t.flow f = u.flow f) ∧
     t.group g = { u.group g with state := .forming, debt := 0, count := 0, slipDone := false } ∧
     (∀ k : GroupIx, k ≠ g → t.group k = u.group k) ∧
     t.pool = u.pool.released ((allFlows.filter fun f => decide (hit f)).map fun f => (u.flow f).held).sum ∧
     t.notice = u.notice.take { kind := .groupResync, subject := .group g, detail := 0, dest := none } ∧
     u.sameElsewhere t) ∧
  (∀ (u : State) (g : GroupIx) (h : Half),
     let t := u.joinAll g h
     let waits (x : FlowIx) := (u.flow x).record.group = some g ∧ (u.flow x).rt.state = .ready
     ((∀ x, ¬ waits x) → t = u) ∧
     (∀ x, waits x → (∀ y, waits y → y = x) → t = u.join h x) ∧
     (∀ x, waits x → t.flow x = (u.join h x).flow x) ∧ (∀ x, ¬ waits x → t.flow x = u.flow x) ∧
     t.groups = u.groups ∧ t.lane = u.lane ∧ t.ring = u.ring ∧ t.mgmt = u.mgmt ∧ t.pending = u.pending)

/-- The aligned join of a READY member to the head `h` (R39, R89): its window re-based by the shift `e`, the blocks left
behind released as LATE and those pushed past the window as BEYOND, then PLAYING at a HELD head, or HOLDING with the head
SPENT, CONCEALED counted; FLOW_STATE raised. -/
def Obligations.AlignedJoinRebasesWindow : Prop :=
  ∀ (u : State) (f : FlowIx) (h : Half), (u.flow f).Lawful → (u.flow f).rt.state = .ready →
    let fl := u.flow f
    let e := seqOffset h fl.window.head
    let behind := ((List.range 32).filter fun k => (fl.window.entryAt k).isHeld && decide ((k : Int) < e)).length
    let past := ((List.range 32).filter fun k =>
      (fl.window.entryAt k).isHeld && decide ((fl.record.depth : Int) + e ≤ k)).length
    let t := u.join h f
    let n := ((u.countTimes f .late behind).countTimes f .beyond past).notice
    (t.flow f).window.head = h ∧ (t.flow f).held + behind + past = fl.held ∧
      t.pool = u.pool.released (behind + past) ∧
      (∀ k : Nat, 1 ≤ k → k < fl.record.depth → ∀ b : Block,
        (t.flow f).window.entryAt k = .held b ↔
          (0 ≤ (k : Int) + e ∧ fl.window.entryAt ((k : Int) + e).toNat = .held b)) ∧
      (∀ b : Block, 0 ≤ e → fl.window.entryAt e.toNat = .held b →
        (t.flow f).window.entryAt 0 = .held b ∧
          (t.flow f).rt = { fl.rt with state := .playing, readIndex := 0, blockLen := some b.length, holdCount := 0,
                                       fadeStage := 0 } ∧
          (t.flow f).counter .concealed = fl.counter .concealed ∧
          t.notice = n.take { kind := .flowState, subject := .flow f, detail := 4, dest := none }) ∧
      ((e < 0 ∨ (fl.window.entryAt e.toNat).isHeld = false) →
        (t.flow f).window.entryAt 0 = .spent ∧
          (t.flow f).rt = { fl.rt with state := .holding, readIndex := 0, holdCount := 1
                                       blockLen := some (concealLength fl.record fl.rt.lastLen)
                                       fadeStage := fadeStageFor fl.record 1 } ∧
          (t.flow f).counter .concealed = fl.counter .concealed + 1 ∧
          t.notice = n.takeAll (u.wrapRaises f .concealed ++
            [{ kind := .flowState, subject := .flow f, detail := 5, dest := none }])) ∧
      (t.flow f).counter .late = fl.counter .late + BitVec.ofNat 16 behind ∧
      (t.flow f).counter .beyond = fl.counter .beyond + BitVec.ofNat 16 past ∧
      (∀ x : FlowIx, x ≠ f → t.flow x = u.flow x) ∧ t.groups = u.groups ∧ u.sameElsewhere t

/-! ### Lane frames -/

/-- The words of a lane frame (R103): the cases of Table 6-1, on the flows as the starts of this lane frame start leave
them, where no boundary is still due. -/
def Obligations.LaneFrameWordsFollowTable : Prop :=
  ∀ s : State, s.lane.status = .present → (∀ f : FlowIx, (s.flow f).boundaryDue = false) →
    ∃ t, exec .frameSyncEdge s = .next t ∧ t.lane.bitPos = 0 ∧
      ∀ (l : Fin 4) (p : Fin 16),
        let word := t.lane.words[l.val * 16 + p.val]
        let entry := s.lane.map[l.val * 16 + p.val]
        ((s.lane.lanes[l.val]).enable = false → word = 0) ∧
        ((s.lane.lanes[l.val]).mute = true → word = 0) ∧
        (entry = .silence → word = 0) ∧
        (∀ (f : FlowIx) (c : Fin 8), entry = .source f c →
          (s.flow f).rt.state.presenting = false → s.startsNow f = false → word = 0) ∧
        (∀ (f : FlowIx) (c : Fin 8), entry = .source f c → (s.flow f).record.channels ≤ c.val → word = 0) ∧
        (∀ (f : FlowIx) (c : Fin 8), (s.lane.lanes[l.val]).enable = true → (s.lane.lanes[l.val]).mute = false →
          entry = .source f c → c.val < (s.flow f).record.channels →
          (∀ b : Block, (s.flow f).window.entryAt 0 = .held b →
            ((s.flow f).rt.state = .playing ∨ (s.flow f).rt.state = .draining .playing →
              word.toInt = ((b.frame (s.flow f).rt.readIndex).getD c.val 0).toInt * 256) ∧
            (s.startsNow f = true → word.toInt = ((b.frame 0).getD c.val 0).toInt * 256)) ∧
          ((s.flow f).rt.state = .holding ∨ (s.flow f).rt.state = .draining .holding →
            word.toInt = ((s.flow f).concealFrame.getD c.val 0).toInt * 256))

/-- What a lane frame start does to a flow in no group (R61 to R63): a READY flow becomes PLAYING and presents sample frame
0; a flow that presents advances its read index by 1. In a group or not, a flow in HOLDING or DRAINING advances by 1 (R63,
R77, R92: it takes part in no slip), and a flow that neither presents nor is READY is as before. Nothing but flows, groups, the lane
unit and the notices changes. -/
def Obligations.LaneFrameStartAdvancesUngroupedFlow : Prop :=
  ∀ s : State, s.lane.status = .present → (∀ f : FlowIx, (s.flow f).boundaryDue = false) →
    ∃ t, exec .frameSyncEdge s = .next t ∧
      (∀ f : FlowIx, (s.flow f).record.group = none →
        ((s.flow f).rt.state = .ready → ∀ b : Block, (s.flow f).window.entryAt 0 = .held b →
          t.flow f = { s.flow f with
            rt := { (s.flow f).rt with
              state := .playing, readIndex := 1, blockLen := some b.length, holdCount := 0, fadeStage := 0 } }) ∧
        ((s.flow f).rt.state.presenting = true →
          t.flow f = { s.flow f with rt := { (s.flow f).rt with readIndex := (s.flow f).rt.readIndex + 1 } })) ∧
      (∀ f : FlowIx, ((s.flow f).rt.state = .holding ∨ (s.flow f).rt.state.isDraining = true) →
        t.flow f = { s.flow f with rt := { (s.flow f).rt with readIndex := (s.flow f).rt.readIndex + 1 } }) ∧
      (∀ f : FlowIx, (s.flow f).rt.state.presenting = false → (s.flow f).rt.state ≠ .ready → t.flow f = s.flow f) ∧
      (∀ f : FlowIx, s.startsNow f = true → (∀ x : FlowIx, x ≠ f → s.startsNow x = false) →
        (∀ g : GroupIx, s.slip g = 0) →
        t.notice = s.notice.take { kind := .flowState, subject := .flow f, detail := 4, dest := none }) ∧
      ((∀ f : FlowIx, s.startsNow f = false) → (∀ g : GroupIx, s.slip g = 0) → t.notice = s.notice) ∧
      t.lane.status = .present ∧ t.lane.gap = 0 ∧ t.lane.run = s.lane.run ∧ t.lane.map = s.lane.map ∧
      t.lane.lanes = s.lane.lanes ∧ t.pool = s.pool ∧ t.ring = s.ring ∧ t.mgmt = s.mgmt

/-- A group start (R84): a FORMING group with a READY member and every member READY, IDLE or CUT becomes RUNNING, and its
READY members become PLAYING and present sample frame 0; otherwise the group and its READY members wait. -/
def Obligations.GroupStartsWhenMembersReady : Prop :=
  ∀ (s : State) (g : GroupIx), s.lane.status = .present → (∀ f : FlowIx, (s.flow f).boundaryDue = false) →
    (s.group g).state = .forming →
    let isMember (f : FlowIx) := (s.flow f).record.group = some g ∧ (s.flow f).rt.state.enabled = true
    let starts := (∃ f, isMember f ∧ (s.flow f).rt.state = .ready) ∧
      ∀ f, isMember f →
        ((s.flow f).rt.state = .ready ∨ (s.flow f).rt.state = .idle ∨ (s.flow f).rt.state = .cut)
    ∃ t, exec .frameSyncEdge s = .next t ∧
      (starts →
        t.group g = { s.group g with state := .running, debt := 0, count := 0, slipDone := false } ∧
        (∀ (f : FlowIx) (b : Block), isMember f → (s.flow f).rt.state = .ready →
          (s.flow f).window.entryAt 0 = .held b →
          t.flow f = { s.flow f with
            rt := { (s.flow f).rt with
              state := .playing, readIndex := 1, blockLen := some b.length, holdCount := 0, fadeStage := 0 } }) ∧
        (∀ f : FlowIx, isMember f → (s.flow f).rt.state ≠ .ready → t.flow f = s.flow f)) ∧
      (¬ starts → t.group g = s.group g ∧
        ∀ f : FlowIx, isMember f → (s.flow f).rt.state = .ready → t.flow f = s.flow f)

/-- A slip (R91 to R93): a RUNNING group with the flag clear, no member HOLDING and a member PLAYING repeats a sample frame
where its debt is negative, and drops one where it is positive and no block ends within it; SLIPS is counted for every
PLAYING member, and where nothing else is raised the notices are the COUNTER_WRAPs of the members whose SLIPS wraps (R163),
in an open order (log entry 3). -/
def Obligations.SlipRepeatsOrDropsOneFrame : Prop :=
  ∀ (s : State) (g : GroupIx), s.lane.status = .present → (∀ f : FlowIx, (s.flow f).boundaryDue = false) →
    (s.group g).state = .running →
    let plays (f : FlowIx) := (s.flow f).record.group = some g ∧ (s.flow f).rt.state = .playing
    let may := (s.group g).slipDone = false ∧ (∃ f, plays f) ∧
      ∀ f : FlowIx, (s.flow f).record.group = some g → (s.flow f).rt.state ≠ .holding
    let fits := ∀ f, plays f → ∃ n, (s.flow f).rt.blockLen = some n ∧ (s.flow f).rt.readIndex + 2 ≤ n
    let moved (f : FlowIx) (k : Nat) : Flow :=
      { s.flow f with rt := { (s.flow f).rt with readIndex := (s.flow f).rt.readIndex + k } }
    ∃ t, exec .frameSyncEdge s = .next t ∧
      (may → (s.group g).debt < 0 →
        t.group g = { s.group g with debt := (s.group g).debt + 1, slipDone := true } ∧
          ∀ f, plays f → t.flow f = (moved f 0).bump .slips) ∧
      (may → 0 < (s.group g).debt → fits →
        t.group g = { s.group g with debt := (s.group g).debt - 1, slipDone := true } ∧
          ∀ f, plays f → t.flow f = (moved f 2).bump .slips) ∧
      (may → ((s.group g).debt < 0 ∨ (0 < (s.group g).debt ∧ fits)) → (∀ x : FlowIx, s.startsNow x = false) →
        (∀ k : GroupIx, k ≠ g → s.slip k = 0) →
        ∃ order : List FlowIx,
          order.Perm (allFlows.filter fun f => decide (plays f ∧ (s.flow f).counter .slips = 65535)) ∧
          t.notice = s.notice.takeAll
            (order.map fun f => { kind := .counterWrap, subject := .flow f, detail := 12, dest := none })) ∧
      (¬ may ∨ (s.group g).debt = 0 ∨ (0 < (s.group g).debt ∧ ¬ fits) →
        t.group g = s.group g ∧ ∀ f, plays f → t.flow f = moved f 1)

/-- Concealment (R66, R67): the length and the fade stage by the hold count, and each sample scaled by stage over F + 1 and
rounded toward zero, without leaving 24 bits; the concealment sample frame is the last sample frame so scaled, channel by
channel, and zeros where there is none (R57). -/
def Obligations.ConcealmentFadesTowardZero : Prop :=
  (∀ fl : Flow,
    (∀ last, fl.rt.lastFrame = some last →
      fl.concealFrame.length = last.length ∧
        ∀ c, c < last.length →
          fl.concealFrame.getD c 0 = fadeSample fl.rt.fadeStage fl.record.fade (last.getD c 0)) ∧
    (fl.rt.lastFrame = none → ∀ c, fl.concealFrame.getD c 0 = 0) ∧
    (fl.rt.fadeStage = 0 → ∀ c, fl.concealFrame.getD c 0 = 0)) ∧
  ∀ (r : FlowRecord) (k : Nat) (lastLen : Option Nat) (x : Sample),
    concealLength r lastLen =
        (match r.mode with | .fixedFull => 12 | .fixedHalf => 6 | .perFrame => lastLen.getD 12) ∧
    (r.conceal = .silence → fadeStageFor r k = 0) ∧
    (r.conceal = .repeatLast → 1 ≤ k → k ≤ r.fade → fadeStageFor r k = r.fade + 1 - k) ∧
    (r.conceal = .repeatLast → r.fade < k → fadeStageFor r k = 0) ∧
    ∀ stage fade : Nat, stage ≤ fade → fade ≤ 16 →
      (fadeSample stage fade x).toInt = (x.toInt * stage).tdiv (fade + 1)

/-- Clock detection at an edge taken in ABSENT (R99): the run of edges counts on, and the fourth makes the status PRESENT
and raises LANE_CLOCK(PRESENT); the lane frame it marks carries zero words. -/
def Obligations.FourthEdgeMakesClockPresent : Prop :=
  ∀ s : State, s.lane.status = .absent → (∀ f : FlowIx, (s.flow f).boundaryDue = false) →
    (s.lane.run < 3 →
      exec .frameSyncEdge s =
        .next (s.withLane { s.lane with gap := 0, run := s.lane.run + 1, words := Vector.replicate 64 0, bitPos := 0
                                        })) ∧
    (s.lane.run = 3 →
      exec .frameSyncEdge s =
        .next ((s.withLane { s.lane with gap := 0, run := 0, status := .present, words := Vector.replicate 64 0
                                         bitPos := 0 }).withNotice
          (s.notice.take { kind := .laneClock, subject := .none, detail := 1, dest := none })))

/-- The lane bit clock (R96, R101): each lane sends the words of the lane frame that began last in position order, most
significant bit first, and zeros after position 15, whatever the lane clock status: a lane frame begun before the loss of
the clock is sent as far as the bit clock shifts it. A lane frame of zero words, as every edge taken in ABSENT begins
(FourthEdgeMakesClockPresent), sends zeros. -/
def Obligations.BitClockSendsWordsInOrder : Prop :=
  ∀ s : State, ∃ t, exec .laneBitClock s = .next t ∧
    (∀ (l : Fin 4) (p : Fin 16) (j : Fin 32), s.lane.bitPos = p.val * 32 + j.val →
      t.lane.out[l.val] = (s.lane.words[l.val * 16 + p.val]).getLsbD (31 - j.val)) ∧
    (∀ l : Fin 4, 512 ≤ s.lane.bitPos ∨ s.lane.words = Vector.replicate 64 0 → t.lane.out[l.val] = false) ∧
    (s.lane.bitPos < 512 → t.lane.bitPos = s.lane.bitPos + 1) ∧ (512 ≤ s.lane.bitPos → t.lane.bitPos = 512) ∧
    t = s.withLane { s.lane with out := t.lane.out, bitPos := t.lane.bitPos }

/-! ### Ticks -/

/-- A tick that brings no timer to its end (R73, R77, R98, R138, R155): every running timer one on, the lease one down,
the Notice Unit's own work done, and nothing else changed. -/
def Obligations.TickAdvancesEveryTimer : Prop :=
  ∀ s : State, s.falling = [] → exec .tick s = .next s.ticked

/-- The tick that brings a flow's silence timer to its late threshold (R74): the late flag set, FLOW_LATE raised, the
state kept. The tick that brings it to its cut threshold (R75, R72): the window flushed, the record as on entry into CUT
with the late flag kept, FLOW_STATE(CUT) raised, its group FORMING if it led it alone. A tick that does not is not this
event (log entry 4). -/
def Obligations.ThresholdsMarkLateOrCut : Prop :=
  ∀ (s : State) (f : FlowIx),
    let fl := s.flow f
    let u := s.ticked
    (∀ n : Nat, fl.rt.state.timed = true → fl.rt.silence = some n → fl.record.late < fl.record.cut →
      (n + 1 = fl.record.late →
        (∃ t, exec (.lateThreshold f) s = .next t ∧
          t.flow f = { u.flow f with rt := { (u.flow f).rt with late := true } }) ∧
        (s.falling = [.late f] →
          exec .tick s = exec (.lateThreshold f) s ∧
          exec (.lateThreshold f) s =
            .next ((u.setFlow f { u.flow f with rt := { (u.flow f).rt with late := true } }).withNotice
              (u.notice.take { kind := .flowLate, subject := .flow f, detail := 0, dest := none })))) ∧
      (n + 1 = fl.record.cut →
        ∃ t, exec (.cutThreshold f) s = .next t ∧
          t.flow f = fl.emptied { Runtime.reset with state := .cut, late := fl.rt.late } ∧
          (s.falling = [.cut f] →
            exec .tick s = .next t ∧ (∀ x : FlowIx, x ≠ f → t.flow x = u.flow x) ∧
            t.pool = s.pool.released fl.held ∧
            t.notice = u.notice.take { kind := .flowState, subject := .flow f, detail := 6, dest := none } ∧
            s.groupsAfterLoss t f ∧ u.sameElsewhere t))) ∧
    (¬ (fl.rt.state.timed = true ∧ ∃ n, fl.rt.silence = some n ∧ n + 1 = fl.record.late) →
      exec (.lateThreshold f) s = .next s) ∧
    (¬ (fl.rt.state.timed = true ∧ ∃ n, fl.rt.silence = some n ∧ n + 1 = fl.record.cut) →
      exec (.cutThreshold f) s = .next s)

/-- The end of a drain (R77): by the flow's block boundary, by the tick that brings the drain timer to 50, by the loss of
the lane clock. The window flushed, the flow DISABLED, the deferred FLOW_DISABLE answered DONE, with detail FORCED for the
deadline alone; PLAYED counted at a boundary in drain mode PLAYING alone. A tick that does not bring the drain timer to 50
is not the deadline (log entry 4). -/
def Obligations.DrainEndsOnceDisabled : Prop :=
  (∀ (s : State) (f : FlowIx), ¬ ((s.flow f).rt.state.isDraining = true ∧ (s.flow f).rt.drain = some 49) →
    exec (.drainDeadline f) s = .next s) ∧
  ∀ (s : State) (f : FlowIx) (m : DrainMode) (c : QueuedCommand), s.ReferencesLawful →
    (s.flow f).rt.state = .draining m → s.mgmt.deferred = some f → s.mgmt.queue.head? = some c →
    let fl := s.flow f
    let u := s.ticked
    let off := { Runtime.reset with state := .disabled }
    (fl.rt.blockLen = some fl.rt.readIndex →
      exec (.blockBoundary f) s =
        .next ((((s.setFlow f
            ((match m with | .playing => fl.bump .played | .holding => fl).emptied off)).withPool
            (s.pool.released fl.held)).withNotice
            (s.notice.takeAll (match m with | .playing => s.wrapRaises f .played | .holding => []))).answered
          c .done 0 [])) ∧
    (fl.rt.drain = some 49 → s.falling = [.deadline f] →
      exec .tick s = exec (.drainDeadline f) s ∧
      exec (.drainDeadline f) s =
        .next (((u.setFlow f (fl.emptied off)).withPool (s.pool.released fl.held)).answered c .done 1 [])) ∧
    (s.lane.status = .present → s.falling = [.gap] →
      (∀ x : FlowIx, x ≠ f → (s.flow x).rt.state.isDraining = false) →
      exec .tick s = exec .laneClockGap s ∧
      exec .laneClockGap s =
        .next (((((u.withLane { s.lane with status := .absent, gap := 2, run := 0 }).withNotice
            (u.notice.take { kind := .laneClock, subject := .none, detail := 0, dest := none })).setFlow f
            (fl.emptied off)).withPool (s.pool.released fl.held)).answered c .done 0 []))

/-- The tick that brings the claim lease to 0 (R138): the claim cleared and CLAIM_LOST raised for its former holder; any
other tick lowers a running lease by 1, and is not this event (log entry 4). -/
def Obligations.LeaseExpiryClearsClaim : Prop :=
  ∀ s : State,
    let u := s.ticked
    (∀ a : Addr, s.mgmt.claim.holder = some a → s.mgmt.claim.lease = 1 →
      (∃ t, exec .leaseExpiry s = .next t ∧ t.mgmt.claim = { holder := none, lease := 0, length := 0 }) ∧
      (s.falling = [.lease] →
        exec .tick s = exec .leaseExpiry s ∧
        exec .leaseExpiry s =
          .next ((u.withMgmt { s.mgmt with claim := { holder := none, lease := 0, length := 0 } }).withNotice
            (u.notice.take { kind := .claimLost, subject := .none, detail := 0, dest := some a })))) ∧
    (∀ a : Addr, s.mgmt.claim.holder = some a → 1 < s.mgmt.claim.lease →
      ∃ t, exec .tick s = .next t ∧ t.mgmt.claim = { s.mgmt.claim with lease := s.mgmt.claim.lease - 1 }) ∧
    (¬ (s.mgmt.claim.holder ≠ none ∧ s.mgmt.claim.lease = 1) → exec .leaseExpiry s = .next s)

/-- The tick that brings the gap timer to 2 (R98): in PRESENT the status becomes ABSENT with LANE_CLOCK(ABSENT) raised; in
ABSENT the run of edges starts again. A tick that does not is not this event (log entry 4). -/
def Obligations.ClockGapMakesClockAbsent : Prop :=
  ∀ s : State,
    let u := s.ticked
    let lost := u.withLane { s.lane with status := .absent, gap := 2, run := 0 }
    (s.lane.gap = 1 →
      (∃ t, exec .laneClockGap s = .next t ∧ t.lane = lost.lane) ∧
      (s.falling = [.gap] →
        exec .tick s = exec .laneClockGap s ∧
        (s.lane.status = .absent → exec .laneClockGap s = .next lost) ∧
        (s.lane.status = .present → (∀ f : FlowIx, (s.flow f).rt.state.isDraining = false) →
          exec .laneClockGap s =
            .next (lost.withNotice
              (u.notice.take { kind := .laneClock, subject := .none, detail := 0, dest := none }))))) ∧
    (s.lane.gap ≠ 1 → exec .laneClockGap s = .next s)

/-- Notice sending at a tick that brings no other timer to its end (R155, R156). Of several due entries, those at a send
count of 3 or more are given up with NOTICES_LOST counted; of the others the oldest that may be chosen (the offer empty, or
holding its own frame) is sent again, where the unit is assigned, and the rest stay due. For the tick that makes one SENT
entry `e` due, the same written out entry by entry. A tick that makes no entry of that number due is not this event (log
entry 4). -/
def Obligations.DueNoticeIsSentAgainOrGivenUp : Prop :=
  (∀ (s : State) (number : Byte),
     (∀ x ∈ s.notice.entries, x.number = number → ∀ m, x.condition ≠ .sent m (m + 1)) →
     exec (.noticeDue number) s = .next s) ∧
  (∀ s : State, s.falling = [] →
     let kept := s.notice.staying
     let offer := s.notice.offerStaying
     let free (x : NoticeEntry) := offer = none ∨ ∃ o, offer = some o ∧ o.number = x.number
     ∃ t, exec .tick s = .next t ∧
       (∀ x ∈ s.notice.entries, ∀ m, x.condition = .sent m (m + 1) → exec (.noticeDue x.number) s = .next t) ∧
       t.notice.lost = s.notice.lost + BitVec.ofNat 32 s.notice.leaving.length ∧
       (∀ before e behind, s.ring.own ≠ 63 → kept = before ++ e :: behind → e.isDue = true → free e →
         (∀ x ∈ before, x.isDue = true → ¬ free x) → e ∉ before →
         t.notice.entries =
           before ++ { e with condition := .sent 0 s.notice.retry, sendCount := e.sendCount + 1 } :: behind ∧
         t.notice.offer = some (e.frameFor s.mgmt.claim.holder)) ∧
       ((s.ring.own = 63 ∨ ((∃ x ∈ kept, x.isDue = true) ∧ ∀ x ∈ kept, x.isDue = true → ¬ free x)) →
         t.notice.entries = kept ∧ t.notice.offer = offer)) ∧
  (∀ (s : State) (before behind : List NoticeEntry) (e : NoticeEntry) (n i : Nat),
     s.notice.entries = before ++ e :: behind → e.condition = .sent n i → n + 1 = i →
     (∀ x ∈ before ++ behind, x.number ≠ e.number ∧ ∀ m j, x.condition = .sent m j → m + 1 < j) → s.falling = [] →
     let others := (before ++ behind).map NoticeEntry.later
     let blocked := s.ring.own = 63 ∨ ∃ o, s.notice.offer = some o ∧ o.number ≠ e.number
     ∃ t, exec (.noticeDue e.number) s = .next t ∧ exec .tick s = .next t ∧
       (3 ≤ e.sendCount →
         t.notice.lost = s.notice.lost + 1 ∧ (∀ x ∈ t.notice.entries, x.number ≠ e.number) ∧
           (blocked → t.notice.entries = others ∧
             t.notice.offer = s.notice.offer.filter (fun o => o.number != e.number))) ∧
       (e.sendCount < 3 → ¬ blocked →
         t.notice.entries =
           before.map NoticeEntry.later ++
             { e with condition := .sent 0 s.notice.retry, sendCount := e.sendCount + 1 } ::
             behind.map NoticeEntry.later ∧
         t.notice.lost = s.notice.lost ∧ t.notice.offer = some (e.frameFor s.mgmt.claim.holder)) ∧
       (e.sendCount < 3 → blocked →
         t.notice = { s.notice with
           entries := before.map NoticeEntry.later ++ { e with condition := .sent i i } ::
             behind.map NoticeEntry.later }))

/-- A PENDING entry is sent at a tick (R155): the oldest one of which no entry of its kind and subject is SENT, where no
entry left after the give-ups is due, the offer is empty, fewer than 4 are SENT and the unit is assigned; where the unit is
unassigned, a frame is on offer, 4 are SENT, or every PENDING entry waits for a SENT one, nothing is sent. -/
def Obligations.PendingNoticeIsSentWhenEligible : Prop :=
  ∀ s : State, s.falling = [] → (∀ x ∈ s.notice.staying, x.isDue = false) →
    let kept := s.notice.staying
    let offer := s.notice.offerStaying
    let lost := s.notice.lost + BitVec.ofNat 32 s.notice.leaving.length
    let sent := kept.filter fun x => decide (x.condition ≠ .pending)
    let waits (x : NoticeEntry) := ∃ y ∈ kept, y.condition ≠ .pending ∧ y.kind = x.kind ∧ y.subject = x.subject
    ∃ t, exec .tick s = .next t ∧
      (∀ before e behind, s.ring.own ≠ 63 → offer = none → sent.length < 4 → kept = before ++ e :: behind →
        e.condition = .pending → ¬ waits e → (∀ x ∈ before, x.condition = .pending → waits x) → e ∉ before →
        t.notice = { s.notice with
          entries := before ++
            { e with condition := .sent 0 s.notice.retry, sendCount := min (e.sendCount + 1) 255 } :: behind
          offer := some (e.frameFor s.mgmt.claim.holder)
          lost := lost }) ∧
      ((s.ring.own = 63 ∨ offer ≠ none ∨ 4 ≤ sent.length ∨ (∀ x ∈ kept, x.condition = .pending → waits x)) →
        t.notice = { s.notice with entries := kept, offer := offer, lost := lost })

/-! ### Notices -/

/-- A raise (R151, R153, R154): nothing where the mask has its kind off; coalesced into a PENDING entry of its kind and
subject; a new PENDING entry with the next free number where there is room; lost with the overflow flag set where there is
none, and then the OVERFLOW entry. -/
def Obligations.RaiseCoalescesOrAppendsOrIsLost : Prop :=
  ∀ (n : NoticeUnit) (r : Raise), n.Lawful → n.NumbersDistinct → r.kind ≠ .overflow →
    let on := n.mask.getLsbD (noticeCode r.kind) = true
    let waiting (e : NoticeEntry) := e.kind = r.kind ∧ e.subject = r.subject ∧ e.condition = .pending
    let ordinary := n.entries.filter fun e => decide (e.kind ≠ .overflow)
    (¬ on → n.take r = n) ∧
    (on → ∀ before e behind, n.entries = before ++ e :: behind → waiting e →
      n.take r = { n with
        entries := before ++
          { e with detail := r.detail, repeats := min (e.repeats + 1) 255, fixedDest := r.dest } :: behind }) ∧
    (on → (∀ e ∈ n.entries, ¬ waiting e) → ordinary.length < 16 →
      ∃ number : Byte, n.Gives number ∧
        n.take r = { n with
          entries := n.entries ++
            [{ number := number, kind := r.kind, subject := r.subject, detail := r.detail, repeats := 0
               condition := .pending, sendCount := 0, fixedDest := r.dest }]
          nextNumber := number + 1 }) ∧
    (on → (∀ e ∈ n.entries, ¬ waiting e) → ordinary.length = 16 →
      (n.take r).overflow = true ∧
      ((∀ e ∈ n.entries, e.kind ≠ .overflow) → n.mask.getLsbD 8 = true →
        ∃ number : Byte, n.Gives number ∧ (n.take r).nextNumber = number + 1 ∧
          (n.take r).entries = n.entries ++
            [{ number := number, kind := .overflow, subject := .none, detail := 0, repeats := 0, condition := .pending
               sendCount := 0, fixedDest := none }]) ∧
      (∀ before e behind, n.entries = before ++ e :: behind → e.kind = .overflow → e.condition = .pending →
        (n.take r).entries = before ++ { e with repeats := min (e.repeats + 1) 255 } :: behind) ∧
      ((∃ e ∈ n.entries, e.kind = .overflow ∧ e.condition ≠ .pending) ∨
        ((∀ e ∈ n.entries, e.kind ≠ .overflow) ∧ n.mask.getLsbD 8 = false) →
        (n.take r).entries = n.entries))

/-- An acknowledgement (R157): it removes the SENT entry of its number, withdraws that entry's frame and clears the overflow
flag for the OVERFLOW entry; one that matches no SENT entry counts ACKS_IGNORED. An address change at the Notice Unit
(R160): the offer withdrawn, every SENT entry back to PENDING with its number, detail, repeat count, send count and place,
or merged into the PENDING entry of its kind and subject. -/
def Obligations.AcknowledgementAndAddressChange : Prop :=
  (∀ (n : NoticeUnit) (number : Byte), n.NumbersDistinct →
     (∀ before e behind m j, n.entries = before ++ e :: behind → e.number = number → e.condition = .sent m j →
       n.acknowledge number = { n with
         entries := before ++ behind
         offer := n.offer.filter (fun o => o.number != number)
         overflow := if e.kind = .overflow then false else n.overflow }) ∧
     ((∀ e ∈ n.entries, e.number = number → e.condition = .pending) →
       n.acknowledge number = { n with acksIgnored := n.acksIgnored + 1 })) ∧
  (∀ n : NoticeUnit, n.Lawful →
     let t := n.addressChanged
     let merged (e : NoticeEntry) := e.condition ≠ .pending ∧
       ∃ x ∈ n.entries, x.condition = .pending ∧ x.kind = e.kind ∧ x.subject = e.subject
     t.offer = none ∧ (∀ e ∈ t.entries, e.condition = .pending) ∧
       t.entries.map NoticeEntry.number =
         (n.entries.filter fun e => decide (¬ (e.condition ≠ .pending ∧
           n.entries.any (fun x => decide (x.condition = .pending ∧ x.kind = e.kind ∧ x.subject = e.subject)) =
             true))).map NoticeEntry.number ∧
       (∀ e ∈ n.entries, e.condition ≠ .pending → ¬ merged e → { e with condition := .pending } ∈ t.entries) ∧
       (∀ e ∈ n.entries, e.condition = .pending →
         (∀ x ∈ n.entries, x.kind = e.kind → x.subject = e.subject → x.condition = .pending) → e ∈ t.entries) ∧
       (∀ e ∈ n.entries, ∀ r ∈ n.entries, e.condition = .pending → r.condition ≠ .pending → r.kind = e.kind →
         r.subject = e.subject → { e with repeats := min (e.repeats + r.repeats + 1) 255 } ∈ t.entries) ∧
       t = { n with entries := t.entries, offer := none })

/-! ### Executions -/

/-- The common checks of an execution (R135), after the reload of the holder's lease (R136): an unknown code, a wrong
parameter length, a missing claim; the first that fails gives the answer and nothing else changes. An execution row acts on
the command in turn alone: with another command in turn, none at all, or a drain in progress, it does nothing (R132, R143;
log entry 8). The three UNIT_RESET rows share a code: a row acts on a UNIT_RESET of its own scope, and on one that is refused
whatever its scope, by its length or because it names none of the three (log entry 8). -/
def Obligations.CommonChecksComeFirst : Prop :=
  ((∀ (s : State) (c : QueuedCommand), s.inTurn c → (c.code.toNat = 0 ∨ 0x11 < c.code.toNat) →
     exec .unknownCommand s = .next ((s.reloaded c).answered c .unknownCommand 0 [])) ∧
   ∀ (i : Instr) (code : Byte) (length : Nat) (needsClaim : Bool), executionOf i = some (code, length, needsClaim) →
     ∀ (s : State) (c : QueuedCommand), s.inTurn c → c.code = code →
       let scopeFits := ∀ k, scopeOf i = some k → byteAt c.params 0 = k ∨ 3 ≤ (byteAt c.params 0).toNat
       (c.length ≠ length → exec i s = .next ((s.reloaded c).answered c .invalidField 0 [])) ∧
       (c.length = length → scopeFits → needsClaim = true → s.mgmt.claim.holder = none →
         exec i s = .next (s.answered c .notHolder 63 [])) ∧
       (∀ a : Addr, c.length = length → scopeFits → needsClaim = true → s.mgmt.claim.holder = some a → a ≠ c.origin →
         exec i s = .next (s.answered c .notHolder (a.zeroExtend 8) []))) ∧
  (∀ s : State, (∀ c, s.inTurn c → 1 ≤ c.code.toNat ∧ c.code.toNat ≤ 0x11) → exec .unknownCommand s = .next s) ∧
  (∀ (i : Instr) (code : Byte) (length : Nat) (needsClaim : Bool), executionOf i = some (code, length, needsClaim) →
     ∀ s : State,
       (∀ c, s.inTurn c → c.code ≠ code ∨
         ∃ k, scopeOf i = some k ∧ c.length = 1 ∧ byteAt c.params 0 ≠ k ∧ (byteAt c.params 0).toNat ≤ 2) →
       exec i s = .next s)

/-- STATUS_GET (R139, R166): the 43 bytes of Table 11-9 as the unit stands after the reload, and nothing else changed. -/
def Obligations.StatusGetReportsUnit : Prop :=
  ∀ (s : State) (c : QueuedCommand), s.inTurn c → c.code = 0x01 → c.length = 0 →
    ∃ data : List Byte, exec .statusGet s = .next ((s.reloaded c).answered c .done 0 data) ∧ data.length = 43 ∧
      (let long (i : Nat) : LongWord := byteAt data i ++ byteAt data (i + 1) ++ byteAt data (i + 2) ++ byteAt data (i + 3)
       byteAt data 0 = s.ring.own.zeroExtend 8 ∧
        byteAt data 1 = (match s.ring.rx with | .down => 0 | .acquiring => 1 | .up => 2) ∧
        byteAt data 2 = (match s.lane.status with | .absent => 0 | .present => 1) ∧
        byteAt data 3 = (match s.mgmt.claim.holder with | none => 63 | some a => a.zeroExtend 8) ∧
        halfAt data 4 = BitVec.ofNat 16 (s.reloaded c).mgmt.claim.lease ∧
        halfAt data 6 = BitVec.ofNat 16 s.pool.free ∧ halfAt data 8 = BitVec.ofNat 16 s.outstanding ∧
        byteAt data 10 = (if s.notice.overflow = true then 1 else 0) ∧
        byteAt data 11 = BitVec.ofNat 8 s.mgmt.queue.length ∧
        long 12 = s.ring.headerErrors ∧ long 16 = s.ring.orphans ∧ long 20 = s.mgmt.crcErrors ∧
        long 24 = s.mgmt.lost ∧ long 28 = s.mgmt.absorbed ∧ long 32 = s.notice.lost ∧
        long 36 = s.notice.acksIgnored ∧ halfAt data 40 = 0x5024 ∧ byteAt data 42 = 2)

/-- FLOW_GET (R139, R167): the flow's record and summary as Table 11-4 lays them out. GROUP_GET (R139, R168): the group's
record, its reference (the pilot if it is a member in PLAYING or HOLDING, else the lowest such member, else none: R83) and
its members in ascending order. BAD_INDEX outside their range, and nothing else changed. -/
def Obligations.FlowAndGroupGetReport : Prop :=
  (∀ (s : State) (c : QueuedCommand), s.inTurn c → c.code = 0x03 → c.length = 1 →
     (48 ≤ (byteAt c.params 0).toNat → exec .flowGet s = .next ((s.reloaded c).answered c .badIndex 0 [])) ∧
     ∀ f : FlowIx, (byteAt c.params 0).toNat = f.val →
       let fl := s.flow f
       ∃ data : List Byte, exec .flowGet s = .next ((s.reloaded c).answered c .done 0 data) ∧ data.length = 27 ∧
         data.take 18 = recordBytes fl.record ∧
         (halfAt data 0 = fl.record.tag ∧ byteAt data 2 = BitVec.ofNat 8 fl.record.channels ∧
           byteAt data 3 = (match fl.record.mode with | .fixedFull => 0 | .fixedHalf => 1 | .perFrame => 2) ∧
           byteAt data 4 = BitVec.ofNat 8 fl.record.depth ∧ byteAt data 5 = BitVec.ofNat 8 fl.record.prime ∧
           byteAt data 6 = BitVec.ofNat 8 fl.record.holdLimit ∧ byteAt data 7 = BitVec.ofNat 8 fl.record.fade ∧
           byteAt data 8 = (match fl.record.exit with | .atOnce => 0 | .reprime => 1) ∧
           byteAt data 9 = (match fl.record.conceal with | .repeatLast => 0 | .silence => 1) ∧
           halfAt data 10 = BitVec.ofNat 16 fl.record.late ∧ halfAt data 12 = BitVec.ofNat 16 fl.record.cut ∧
           byteAt data 14 = (match fl.record.tap with | .tap => 0 | .take => 1) ∧
           byteAt data 15 = (match fl.record.crc with | .discard => 0 | .keep => 1) ∧
           byteAt data 16 = (match fl.record.group with | none => 255 | some g => BitVec.ofNat 8 g.val) ∧
           byteAt data 17 = 0) ∧
         byteAt data 18 = stateCode fl.rt.state ∧
         stateCode fl.rt.state =
           (match fl.rt.state with
             | .disabled => 0 | .idle => 1 | .priming => 2 | .ready => 3 | .playing => 4 | .holding => 5 | .cut => 6
             | .draining _ => 7) ∧
         halfAt data 19 = fl.window.head ∧ byteAt data 21 = BitVec.ofNat 8 fl.held ∧
         byteAt data 22 = BitVec.ofNat 8 fl.window.contiguous ∧ byteAt data 23 = BitVec.ofNat 8 fl.rt.readIndex ∧
         byteAt data 24 = BitVec.ofNat 8 fl.rt.holdCount ∧ byteAt data 25 = (if fl.rt.late = true then 1 else 0) ∧
         (∀ b : Block, fl.window.entryAt 0 = .held b → byteAt data 26 = if b.crcBad = true then 1 else 0) ∧
         ((fl.window.entryAt 0).isHeld = false → byteAt data 26 = 0)) ∧
  (∀ (s : State) (c : QueuedCommand), s.inTurn c → c.code = 0x08 → c.length = 1 →
     (8 ≤ (byteAt c.params 0).toNat → exec .groupGet s = .next ((s.reloaded c).answered c .badIndex 0 [])) ∧
     ∀ g : GroupIx, (byteAt c.params 0).toNat = g.val →
       let gr := s.group g
       let members := allFlows.filter fun f =>
         (s.flow f).rt.state.enabled && decide ((s.flow f).record.group = some g)
       let plays (f : FlowIx) := (s.flow f).record.group = some g ∧
         ((s.flow f).rt.state = .playing ∨ (s.flow f).rt.state = .holding)
       ∃ data : List Byte, exec .groupGet s = .next ((s.reloaded c).answered c .done 0 data) ∧
         data.length = 10 + members.length ∧ byteAt data 0 = (match gr.state with | .forming => 0 | .running => 1) ∧
         byteAt data 1 = (match gr.pilot with | none => 255 | some f => BitVec.ofNat 8 f.val) ∧
         byteAt data 2 = BitVec.ofNat 8 gr.target ∧ byteAt data 3 = BitVec.ofNat 8 gr.hysteresis ∧
         byteAt data 4 = BitVec.ofNat 8 gr.interval ∧ byteAt data 5 = BitVec.ofInt 8 gr.debt ∧
         byteAt data 6 = BitVec.ofNat 8 gr.count ∧ byteAt data 7 = (if gr.slipDone = true then 1 else 0) ∧
         (∀ f, gr.pilot = some f → plays f → s.reference g = some f ∧ byteAt data 8 = BitVec.ofNat 8 f.val) ∧
         (∀ f, (∀ p, gr.pilot = some p → ¬ plays p) → plays f → (∀ x, x < f → ¬ plays x) →
           s.reference g = some f ∧ byteAt data 8 = BitVec.ofNat 8 f.val) ∧
         ((∀ f, ¬ plays f) → s.reference g = none ∧ byteAt data 8 = 255) ∧
         byteAt data 9 = BitVec.ofNat 8 members.length ∧
         data.drop 10 = members.map fun f => BitVec.ofNat 8 f.val)

/-- LANE_SET and MAP_GET (R104, R106), and MAP_SET (R102, R105): their checks in order, and the one setting or entry each
write replaces. -/
def Obligations.MapAndLaneCommands : Prop :=
  ((∀ (s : State) (c : QueuedCommand), s.inTurn c → c.code = 0x0B → c.length = 3 →
     s.mgmt.claim.holder = some c.origin →
     let r := s.reloaded c
     let p (i : Nat) := (byteAt c.params i).toNat
     (4 ≤ p 0 → exec .laneSet s = .next (r.answered c .badIndex 0 [])) ∧
     (p 0 < 4 → 2 ≤ p 1 → exec .laneSet s = .next (r.answered c .invalidField 1 [])) ∧
     (p 0 < 4 → p 1 < 2 → 2 ≤ p 2 → exec .laneSet s = .next (r.answered c .invalidField 2 [])) ∧
     (∀ l : Fin 4, p 0 = l.val → p 1 < 2 → p 2 < 2 →
       exec .laneSet s =
         .next ((r.withLane { s.lane with
           lanes := s.lane.lanes.set l.val { enable := decide (p 1 = 1), mute := decide (p 2 = 1) } }).answered
           c .done 0 []))) ∧
   ∀ (s : State) (c : QueuedCommand), s.inTurn c → c.code = 0x0A → c.length = 1 →
     (4 ≤ (byteAt c.params 0).toNat → exec .mapGet s = .next ((s.reloaded c).answered c .badIndex 0 [])) ∧
     ∀ l : Fin 4, (byteAt c.params 0).toNat = l.val →
       ∃ data : List Byte, exec .mapGet s = .next ((s.reloaded c).answered c .done 0 data) ∧ data.length = 50 ∧
         byteAt data 0 = (if (s.lane.lanes[l.val]).enable = true then 1 else 0) ∧
         byteAt data 1 = (if (s.lane.lanes[l.val]).mute = true then 1 else 0) ∧
         ∀ p : Fin 16,
           (s.lane.map[l.val * 16 + p.val] = .silence →
             byteAt data (2 + 3 * p.val) = 0 ∧ byteAt data (3 + 3 * p.val) = 0 ∧ byteAt data (4 + 3 * p.val) = 0) ∧
           ∀ (f : FlowIx) (ch : Fin 8), s.lane.map[l.val * 16 + p.val] = .source f ch →
             byteAt data (2 + 3 * p.val) = 1 ∧ byteAt data (3 + 3 * p.val) = BitVec.ofNat 8 f.val ∧
               byteAt data (4 + 3 * p.val) = BitVec.ofNat 8 ch.val) ∧
  (∀ (s : State) (c : QueuedCommand), s.inTurn c → c.code = 0x09 → c.length = 5 →
     s.mgmt.claim.holder = some c.origin →
     let r := s.reloaded c
     let p (i : Nat) := (byteAt c.params i).toNat
     let stored (l : Fin 4) (q : Fin 16) (e : MapEntry) :=
       (r.withLane { s.lane with map := s.lane.map.set (l.val * 16 + q.val) e }).answered c .done 0 []
     (4 ≤ p 0 ∨ 16 ≤ p 1 → exec .mapSet s = .next (r.answered c .badIndex 0 [])) ∧
     ∀ (l : Fin 4) (q : Fin 16), p 0 = l.val → p 1 = q.val →
       (2 ≤ p 2 → exec .mapSet s = .next (r.answered c .invalidField 1 [])) ∧
       (p 2 = 1 → 48 ≤ p 3 → exec .mapSet s = .next (r.answered c .invalidField 2 [])) ∧
       (p 2 = 1 → p 3 < 48 → 8 ≤ p 4 → exec .mapSet s = .next (r.answered c .invalidField 3 [])) ∧
       (p 2 = 0 → exec .mapSet s = .next (stored l q .silence)) ∧
       ∀ (f : FlowIx) (ch : Fin 8), p 2 = 1 → p 3 = f.val → p 4 = ch.val →
         exec .mapSet s = .next (stored l q (.source f ch)))

/-- GROUP_SET (R94): its checks in order, the four settings stored, the interval count at 0, debt, flag and state kept. -/
def Obligations.GroupSetStoresSettings : Prop :=
  ∀ (s : State) (c : QueuedCommand), s.inTurn c → c.code = 0x07 → c.length = 5 →
    s.mgmt.claim.holder = some c.origin →
    let r := s.reloaded c
    let p (i : Nat) := (byteAt c.params i).toNat
    let pilotOk := p 1 < 48 ∨ p 1 = 255
    let targetOk := 1 ≤ p 2 ∧ p 2 ≤ 32
    let hysteresisOk := p 3 ≤ 8
    let intervalOk := 1 ≤ p 4 ∧ p 4 ≤ 64
    (8 ≤ p 0 → exec .groupSet s = .next (r.answered c .badIndex 0 [])) ∧
    (p 0 < 8 → ¬ pilotOk → exec .groupSet s = .next (r.answered c .invalidField 1 [])) ∧
    (p 0 < 8 → pilotOk → ¬ targetOk → exec .groupSet s = .next (r.answered c .invalidField 2 [])) ∧
    (p 0 < 8 → pilotOk → targetOk → ¬ hysteresisOk → exec .groupSet s = .next (r.answered c .invalidField 3 [])) ∧
    (p 0 < 8 → pilotOk → targetOk → hysteresisOk → ¬ intervalOk →
      exec .groupSet s = .next (r.answered c .invalidField 4 [])) ∧
    ∀ g : GroupIx, p 0 = g.val → pilotOk → targetOk → hysteresisOk → intervalOk →
      ∃ pilot : Option FlowIx, (p 1 = 255 → pilot = none) ∧ (∀ f : FlowIx, p 1 = f.val → pilot = some f) ∧
        exec .groupSet s =
          .next ((r.setGroup g { s.group g with
            pilot := pilot, target := p 2, hysteresis := p 3, interval := p 4, count := 0 }).answered c .done 0 [])

/-- FLOW_SET (R7): BAD_INDEX, BAD_STATE for a flow that is not DISABLED, INVALID_FIELD naming the lowest field that is out of
range or in conflict with an earlier one, and else the whole record stored with the counters at 0. -/
def Obligations.FlowSetStoresWholeRecord : Prop :=
  ∀ (s : State) (c : QueuedCommand), s.inTurn c → c.code = 0x02 → c.length = 19 →
    s.mgmt.claim.holder = some c.origin →
    let r := s.reloaded c
    (48 ≤ (byteAt c.params 0).toNat → exec .flowSet s = .next (r.answered c .badIndex 0 [])) ∧
    ∀ f : FlowIx, (byteAt c.params 0).toNat = f.val →
      let rec18 := c.params.drop 1
      let b (i : Nat) := (byteAt rec18 i).toNat
      let h (i : Nat) := (halfAt rec18 i).toNat
      let ok : Nat → Prop := fun id =>
        (id = 2 → 1 ≤ b 2 ∧ b 2 ≤ 8) ∧ (id = 3 → b 3 ≤ 2) ∧ (id = 4 → 2 ≤ b 4 ∧ b 4 ≤ 32) ∧
        (id = 5 → 1 ≤ b 5 ∧ b 5 ≤ b 4) ∧ (id = 6 → 1 ≤ b 6 ∧ b 6 ≤ 64) ∧ (id = 7 → b 7 ≤ 16 ∧ b 7 ≤ b 6) ∧
        (id = 8 → b 8 ≤ 1) ∧ (id = 9 → b 9 ≤ 1) ∧ (id = 11 → 1 ≤ h 12 ∧ (h 10 = 0 ∨ h 10 < h 12)) ∧
        (id = 12 → b 14 ≤ 1) ∧ (id = 13 → b 15 ≤ 1) ∧ (id = 14 → b 16 ≤ 7 ∨ b 16 = 255)
      ((s.flow f).rt.state ≠ .disabled →
        exec .flowSet s = .next (r.answered c .badState
          (match (s.flow f).rt.state with
            | .disabled => 0 | .idle => 1 | .priming => 2 | .ready => 3 | .playing => 4 | .holding => 5 | .cut => 6
            | .draining _ => 7) [])) ∧
      (∀ id : Nat, (s.flow f).rt.state = .disabled → 1 ≤ id → id ≤ 14 → ¬ ok id → (∀ j, j < id → ok j) →
        exec .flowSet s = .next (r.answered c .invalidField (BitVec.ofNat 8 id) [])) ∧
      ((s.flow f).rt.state = .disabled → (∀ id, ok id) →
        ∃ record : FlowRecord,
          (record.tag = halfAt rec18 0 ∧ record.channels = b 2 ∧ (record.mode = .fixedFull ↔ b 3 = 0) ∧
            (record.mode = .fixedHalf ↔ b 3 = 1) ∧ (record.mode = .perFrame ↔ b 3 = 2) ∧
            record.depth = b 4 ∧ record.prime = b 5 ∧ record.holdLimit = b 6 ∧ record.fade = b 7 ∧
            (record.exit = .reprime ↔ b 8 = 1) ∧ (record.conceal = .silence ↔ b 9 = 1) ∧ record.late = h 10 ∧
            record.cut = h 12 ∧ (record.tap = .take ↔ b 14 = 1) ∧ (record.crc = .keep ↔ b 15 = 1) ∧
            (record.group = none ↔ b 16 = 255) ∧ ∀ g : GroupIx, record.group = some g ↔ b 16 = g.val) ∧
          exec .flowSet s =
            .next ((r.setFlow f { s.flow f with record := record, counters := Vector.replicate 12 0 }).answered
              c .done 0 []))

/-- A record read back by FLOW_GET and sent in a FLOW_SET is the same record, whatever lawful values it has (Tables 1-1 and
11-8). -/
def Obligations.RecordEncodingRoundTrips : Prop :=
  ∀ r : FlowRecord, 1 ≤ r.channels → r.channels ≤ 8 → 2 ≤ r.depth → r.depth ≤ 32 → 1 ≤ r.prime → r.prime ≤ r.depth →
    1 ≤ r.holdLimit → r.holdLimit ≤ 64 → r.fade ≤ 16 → r.fade ≤ r.holdLimit → r.late ≤ 65535 → 1 ≤ r.cut →
    r.cut ≤ 65535 → (r.late = 0 ∨ r.late < r.cut) →
    (recordBytes r).length = 18 ∧ recordFault (recordBytes r) = none ∧ parseRecord (recordBytes r) = r

/-- FLOW_ENABLE (R16 to R20): the five checks of Table 1-4 in order, and IDLE. -/
def Obligations.FlowEnableMakesFlowIdle : Prop :=
  ∀ (s : State) (c : QueuedCommand), s.inTurn c → c.code = 0x04 → c.length = 1 →
    s.mgmt.claim.holder = some c.origin →
    let r := s.reloaded c
    (48 ≤ (byteAt c.params 0).toNat → exec .flowEnable s = .next (r.answered c .badIndex 0 [])) ∧
    ∀ f : FlowIx, (byteAt c.params 0).toNat = f.val →
      let rec1 := (s.flow f).record
      let matchable (x : FlowIx) := (s.flow x).rt.state.enabled = true ∨ (s.flow x).rt.state.isDraining = true
      let fresh := ∀ x, matchable x → (s.flow x).record.tag ≠ rec1.tag
      let clashes (x : FlowIx) := matchable x ∧ (s.flow x).record.group = rec1.group ∧ (s.flow x).record.mode ≠ rec1.mode
      let mixes := rec1.group ≠ none ∧ (rec1.mode = .perFrame ∨ ∃ x, clashes x)
      let shared := s.pool.free - s.outstanding
      ((s.flow f).rt.state ≠ .disabled →
        exec .flowEnable s = .next (r.answered c .badState (stateCode (s.flow f).rt.state) [])) ∧
      ((s.flow f).rt.state = .disabled → rec1.tag = 0 →
        exec .flowEnable s = .next (r.answered c .invalidField 1 [])) ∧
      (∀ x : FlowIx, (s.flow f).rt.state = .disabled → rec1.tag ≠ 0 → matchable x → (s.flow x).record.tag = rec1.tag →
        (∀ y, y < x → matchable y → (s.flow y).record.tag ≠ rec1.tag) →
        exec .flowEnable s = .next (r.answered c .tagInUse (BitVec.ofNat 8 x.val) [])) ∧
      ((s.flow f).rt.state = .disabled → rec1.tag ≠ 0 → fresh → rec1.group ≠ none → rec1.mode = .perFrame →
        exec .flowEnable s = .next (r.answered c .groupMismatch 255 [])) ∧
      (∀ x : FlowIx, (s.flow f).rt.state = .disabled → rec1.tag ≠ 0 → fresh → rec1.group ≠ none →
        rec1.mode ≠ .perFrame → clashes x → (∀ y, y < x → ¬ clashes y) →
        exec .flowEnable s = .next (r.answered c .groupMismatch (BitVec.ofNat 8 x.val) [])) ∧
      ((s.flow f).rt.state = .disabled → rec1.tag ≠ 0 → fresh → ¬ mixes → shared < rec1.prime →
        exec .flowEnable s = .next (r.answered c .noReservation (BitVec.ofNat 8 shared) [])) ∧
      ((s.flow f).rt.state = .disabled → rec1.tag ≠ 0 → fresh → ¬ mixes → rec1.prime ≤ shared →
        exec .flowEnable s =
          .next ((r.setFlow f { s.flow f with
            rt := { state := .idle, readIndex := 0, blockLen := none, holdCount := 0, fadeStage := 0,
                    lastFrame := none, lastLen := none, silence := none, late := false, drain := none } }).answered
            c .done 0 []))

/-- FLOW_DISABLE (R76, R142): nothing for a DISABLED flow; flushed and DISABLED at once, or, for a flow in PLAYING or HOLDING
with the lane clock PRESENT, DRAINING with the answer deferred and the command still in execution. -/
def Obligations.FlowDisableDisablesOrDrains : Prop :=
  ∀ (s : State) (c : QueuedCommand), s.inTurn c → c.code = 0x05 → c.length = 1 →
    s.mgmt.claim.holder = some c.origin →
    let r := s.reloaded c
    (48 ≤ (byteAt c.params 0).toNat → exec .flowDisable s = .next (r.answered c .badIndex 0 [])) ∧
    ∀ f : FlowIx, (byteAt c.params 0).toNat = f.val →
      let x := (s.flow f).rt.state
      (x = .disabled → exec .flowDisable s = .next (r.answered c .done 0 [])) ∧
      (x.enabled = true → (x ≠ .playing ∧ x ≠ .holding ∨ s.lane.status = .absent) →
        ∃ t, exec .flowDisable s = .next t ∧ t.flow f = (s.flow f).emptied { Runtime.reset with state := .disabled } ∧
          (∀ y : FlowIx, y ≠ f → t.flow y = s.flow y) ∧ t.pool = s.pool.released (s.flow f).held ∧
          s.groupsAfterLoss t f ∧ t.notice = s.notice ∧ t.lane = s.lane ∧ t.ring = (r.answered c .done 0 []).ring ∧
          t.mgmt = (r.answered c .done 0 []).mgmt ∧ t.pending = s.pending) ∧
      (∀ m : DrainMode, (x = .playing ∧ m = .playing ∨ x = .holding ∧ m = .holding) → s.lane.status = .present →
        ∃ t, exec .flowDisable s = .next t ∧
          t.flow f = { s.flow f with
            rt := { (s.flow f).rt with state := .draining m, silence := none, drain := some 0 } } ∧
          (∀ y : FlowIx, y ≠ f → t.flow y = s.flow y) ∧ t.pool = s.pool ∧ s.groupsAfterLoss t f ∧
          t.notice = s.notice ∧ t.lane = s.lane ∧ t.ring = s.ring ∧
          t.mgmt = { r.mgmt with deferred := some f } ∧ t.pending = s.pending)

/-- FLOW_RESTART (R78, R144): BAD_STATE for a flow that is not enabled; else flushed to IDLE, its reservation and counters
kept. -/
def Obligations.FlowRestartMakesFlowIdle : Prop :=
  ∀ (s : State) (c : QueuedCommand), s.inTurn c → c.code = 0x06 → c.length = 1 →
    s.mgmt.claim.holder = some c.origin →
    let r := s.reloaded c
    (48 ≤ (byteAt c.params 0).toNat → exec .flowRestart s = .next (r.answered c .badIndex 0 [])) ∧
    ∀ f : FlowIx, (byteAt c.params 0).toNat = f.val →
      let x := (s.flow f).rt.state
      (x = .disabled → exec .flowRestart s = .next (r.answered c .badState 0 [])) ∧
      (x.enabled = true →
        ∃ t, exec .flowRestart s = .next t ∧ t.flow f = (s.flow f).emptied { Runtime.reset with state := .idle } ∧
          (∀ y : FlowIx, y ≠ f → t.flow y = s.flow y) ∧ t.pool = s.pool.released (s.flow f).held ∧
          s.groupsAfterLoss t f ∧ t.notice = s.notice ∧ t.lane = s.lane ∧ t.ring = (r.answered c .done 0 []).ring ∧
          t.mgmt = (r.answered c .done 0 []).mgmt ∧ t.pending = s.pending)

/-- COUNTERS_GET (R140, R164): its checks in their own order, the twelve counters in id order, and with clear all twelve at 0
within the same execution. -/
def Obligations.CountersGetReadsAndClears : Prop :=
  ∀ (s : State) (c : QueuedCommand), s.inTurn c → c.code = 0x0C → c.length = 2 →
    let r := s.reloaded c
    let clear := (byteAt c.params 1).toNat
    let mayClear := s.mgmt.claim.holder = some c.origin
    (2 ≤ clear → exec .countersGet s = .next (r.answered c .invalidField 1 [])) ∧
    (clear = 1 → s.mgmt.claim.holder = none → exec .countersGet s = .next (r.answered c .notHolder 63 [])) ∧
    (∀ a : Addr, clear = 1 → s.mgmt.claim.holder = some a → a ≠ c.origin →
      exec .countersGet s = .next (r.answered c .notHolder (a.zeroExtend 8) [])) ∧
    (clear ≤ 1 → (clear = 1 → mayClear) → 48 ≤ (byteAt c.params 0).toNat →
      exec .countersGet s = .next (r.answered c .badIndex 0 [])) ∧
    ∀ f : FlowIx, clear ≤ 1 → (clear = 1 → mayClear) → (byteAt c.params 0).toNat = f.val →
      ∃ data : List Byte, data.length = 24 ∧
        (∀ k : Fin 12, halfAt data (2 * k.val) = (s.flow f).counters[k.val]) ∧
        (clear = 0 → exec .countersGet s = .next (r.answered c .done 0 data)) ∧
        (clear = 1 →
          exec .countersGet s =
            .next ((r.setFlow f { s.flow f with counters := Vector.replicate 12 0 }).answered c .done 0 data))

/-- UNIT_SET (R55, R145, R159): its checks in order; the mask stored and the entries of kinds it has off removed with their
frame on offer, the retry interval stored, and a changed pool low threshold stored, armed and examined at once. -/
def Obligations.UnitSetStoresThreeSettings : Prop :=
  ∀ (s : State) (c : QueuedCommand), s.inTurn c → c.code = 0x0D → c.length = 6 →
    s.mgmt.claim.holder = some c.origin →
    let r := s.reloaded c
    let mask := halfAt c.params 0
    let retry := (halfAt c.params 2).toNat
    let threshold := (halfAt c.params 4).toNat
    let kept (e : NoticeEntry) : Bool := mask.getLsbD (noticeCode e.kind)
    let n := { s.notice with
      mask := mask, retry := retry, entries := s.notice.entries.filter kept
      offer := s.notice.offer.filter fun o => s.notice.entries.all fun e => kept e || e.number != o.number }
    (512 ≤ mask.toNat → exec .unitSet s = .next (r.answered c .invalidField 1 [])) ∧
    (mask.toNat < 512 → (retry < 5 ∨ 1000 < retry) → exec .unitSet s = .next (r.answered c .invalidField 2 [])) ∧
    (mask.toNat < 512 → 5 ≤ retry → retry ≤ 1000 → 384 < threshold →
      exec .unitSet s = .next (r.answered c .invalidField 3 [])) ∧
    (mask.toNat < 512 → 5 ≤ retry → retry ≤ 1000 → threshold ≤ 384 →
      (threshold = s.pool.threshold → exec .unitSet s = .next ((r.withNotice n).answered c .done 0 [])) ∧
      (threshold ≠ s.pool.threshold → threshold ≤ s.pool.free →
        exec .unitSet s =
          .next (((r.withPool { s.pool with threshold := threshold, armed := true }).withNotice n).answered
            c .done 0 [])) ∧
      (threshold ≠ s.pool.threshold → s.pool.free < threshold →
        exec .unitSet s =
          .next (((r.withPool { s.pool with threshold := threshold, armed := false }).withNotice
            (n.take { kind := .poolLow, subject := .none, detail := 0, dest := none })).answered c .done 0 [])))

/-- UNIT_RESET with scope COUNTERS (R146): every per-flow and unit counter at 0, every other value kept, and an unknown scope
refused whatever row it comes by (log entry 8). With scope PLAYOUT (R56, R58, R95, R146): every enabled flow flushed to IDLE,
every window emptied and every buffer free, the monitor armed, every group FORMING with its settings kept; map, lanes,
records, counters, claim, cache and notices kept. -/
def Obligations.ResetCountersAndPlayout : Prop :=
  (∀ (s : State) (c : QueuedCommand), s.inTurn c → c.code = 0x0E → c.length = 1 →
     s.mgmt.claim.holder = some c.origin →
     let r := s.reloaded c
     (3 ≤ (byteAt c.params 0).toNat →
       ∀ i ∈ [Instr.unitResetCounters, Instr.unitResetPlayout, Instr.unitResetConfig],
         exec i s = .next (r.answered c .invalidField 1 [])) ∧
     (byteAt c.params 0 = 0 →
       exec .unitResetCounters s =
         .next (({ r with
           flows := Vector.ofFn fun f : FlowIx => { s.flow f with counters := Vector.replicate 12 0 }
           ring := { s.ring with headerErrors := 0, orphans := 0 }
           mgmt := { r.mgmt with crcErrors := 0, lost := 0, absorbed := 0 }
           notice := { s.notice with lost := 0, acksIgnored := 0 } } : State).answered c .done 0 []))) ∧
  (∀ (s : State) (c : QueuedCommand), s.inTurn c → c.code = 0x0E → c.length = 1 →
     s.mgmt.claim.holder = some c.origin → byteAt c.params 0 = 1 → s.PoolLawful →
     (∀ f : FlowIx, (s.flow f).rt.state.isDraining = false) →
     let r := s.reloaded c
     exec .unitResetPlayout s =
       .next (({ r with
         flows := Vector.ofFn fun f : FlowIx =>
           (s.flow f).emptied
             (if (s.flow f).rt.state = .disabled then (s.flow f).rt else { Runtime.reset with state := .idle })
         pool := { free := 384, threshold := s.pool.threshold, armed := true }
         groups := Vector.ofFn fun g : GroupIx =>
           { s.group g with state := .forming, debt := 0, count := 0, slipDone := false } } : State).answered
         c .done 0 []))

/-- UNIT_RESET with scope CONFIG (R8, R27, R56, R58, R95, R107, R134, R146, R147): every table at its defaults, windows'
heads and the number counter kept, the claim cleared, and the cache holding the reset's own answer alone; the own address,
receive synchronisation, answer queue, lane clock and the commands behind it kept. -/
def Obligations.ResetConfigRestoresDefaults : Prop :=
  ∀ (s : State) (c : QueuedCommand), s.inTurn c → c.code = 0x0E → c.length = 1 →
    s.mgmt.claim.holder = some c.origin → byteAt c.params 0 = 2 → s.PoolLawful →
    exec .unitResetConfig s =
      .next (({ s with
        flows := Vector.ofFn fun f : FlowIx =>
          { record := FlowRecord.default, held := 0, counters := Vector.replicate 12 0, rt := Runtime.reset
            window := { head := (s.flow f).window.head, entries := Vector.replicate 32 .empty } }
        pool := { free := 384, threshold := 0, armed := true }
        groups := Vector.replicate 8 Group.reset
        lane := { s.lane with
          map := Vector.replicate 64 .silence, lanes := Vector.replicate 4 { enable := false, mute := false } }
        ring := { s.ring with headerErrors := 0, orphans := 0 }
        mgmt := { queue := s.mgmt.queue, deferred := none, claim := { holder := none, lease := 0, length := 0 }
                  cache := [], crcErrors := 0, lost := 0, absorbed := 0 }
        notice := { mask := 0, entries := [], overflow := false, retry := 20, nextNumber := s.notice.nextNumber
                    offer := none, lost := 0, acksIgnored := 0 } } : State).answered c .done 0 [])

/-- CLAIM and RELEASE (R137). -/
def Obligations.ClaimIsHeldByOneOrigin : Prop :=
  (∀ (s : State) (c : QueuedCommand), s.inTurn c → c.code = 0x0F → c.length = 2 →
    let lease := (halfAt c.params 0).toNat
    let r := s.reloaded c
    (lease = 0 ∨ 60000 < lease → exec .claim s = .next (r.answered c .invalidField 1 [])) ∧
    (1 ≤ lease → lease ≤ 60000 → (s.mgmt.claim.holder = none ∨ s.mgmt.claim.holder = some c.origin) →
      exec .claim s =
        .next ((s.withMgmt { s.mgmt with
          claim := { holder := some c.origin, lease := lease, length := lease } }).answered c .done 0 [])) ∧
    (∀ a : Addr, 1 ≤ lease → lease ≤ 60000 → s.mgmt.claim.holder = some a → a ≠ c.origin →
      exec .claim s = .next (s.answered c .claimed (a.zeroExtend 8) []))) ∧
  ∀ (s : State) (c : QueuedCommand), s.inTurn c → c.code = 0x10 → c.length = 0 →
    (s.mgmt.claim.holder = some c.origin →
      exec .release s =
        .next ((s.withMgmt { s.mgmt with claim := { holder := none, lease := 0, length := 0 } }).answered
          c .done 0 [])) ∧
    (s.mgmt.claim.holder = none → exec .release s = .next (s.answered c .notHolder 63 [])) ∧
    (∀ a : Addr, s.mgmt.claim.holder = some a → a ≠ c.origin →
      exec .release s = .next (s.answered c .notHolder (a.zeroExtend 8) []))

end
end

