-- ==== Sys2Proof/Laws/State.lean ====
section
/-! SUPPORT. One lemma per part of the state for each update of the state: what it changes and what it leaves. -/

namespace Sys2Proof.Machine

/-! ### Flows and groups -/

@[simp] theorem State.flow_setFlow_self (s : State) (f : FlowIx) (x : Flow) : (s.setFlow f x).flow f = x := by
  simp [State.flow, State.setFlow]

theorem State.flow_setFlow_ne (s : State) {f g : FlowIx} (x : Flow) (h : g ≠ f) : (s.setFlow f x).flow g = s.flow g := by
  have : f.val ≠ g.val := fun e => h (Fin.ext e.symm)
  simp [State.flow, State.setFlow, Vector.getElem_set_ne _ _ this]

theorem State.flow_setFlow (s : State) (f g : FlowIx) (x : Flow) :
    (s.setFlow f x).flow g = if g = f then x else s.flow g := by
  split
  · next h => rw [h]; exact State.flow_setFlow_self s f x
  · next h => exact State.flow_setFlow_ne s x h

@[simp] theorem State.group_setGroup_self (s : State) (g : GroupIx) (x : Group) : (s.setGroup g x).group g = x := by
  simp [State.group, State.setGroup]

theorem State.group_setGroup_ne (s : State) {g k : GroupIx} (x : Group) (h : k ≠ g) :
    (s.setGroup g x).group k = s.group k := by
  have : g.val ≠ k.val := fun e => h (Fin.ext e.symm)
  simp [State.group, State.setGroup, Vector.getElem_set_ne _ _ this]

theorem State.group_setGroup (s : State) (g k : GroupIx) (x : Group) :
    (s.setGroup g x).group k = if k = g then x else s.group k := by
  split
  · next h => rw [h]; exact State.group_setGroup_self s g x
  · next h => exact State.group_setGroup_ne s x h

@[simp] theorem State.setFlow_flow (s : State) (f : FlowIx) : s.setFlow f (s.flow f) = s := by
  simp [State.flow, State.setFlow]

@[simp] theorem State.setFlow_setFlow (s : State) (f : FlowIx) (x y : Flow) :
    (s.setFlow f x).setFlow f y = s.setFlow f y := by
  simp [State.setFlow]

@[simp] theorem State.flow_ofFn (s : State) (v : FlowIx → Flow) (f : FlowIx) :
    ({ s with flows := Vector.ofFn v } : State).flow f = v f := by simp [State.flow]

@[simp] theorem State.group_ofFn (s : State) (v : GroupIx → Group) (g : GroupIx) :
    ({ s with groups := Vector.ofFn v } : State).group g = v g := by simp [State.group]

theorem State.setRt_eq (s : State) (f : FlowIx) (r : Runtime) : s.setRt f r = s.setFlow f { s.flow f with rt := r } := rfl

theorem State.setWindow_eq (s : State) (f : FlowIx) (w : Window) :
    s.setWindow f w = s.setFlow f { s.flow f with window := w } := rfl

/-! ### Every other part -/

@[simp] theorem State.flows_setFlow (s : State) (f : FlowIx) (x : Flow) : (s.setFlow f x).flows = s.flows.set f.val x := rfl
@[simp] theorem State.pool_setFlow (s : State) (f : FlowIx) (x : Flow) : (s.setFlow f x).pool = s.pool := rfl
@[simp] theorem State.groups_setFlow (s : State) (f : FlowIx) (x : Flow) : (s.setFlow f x).groups = s.groups := rfl
@[simp] theorem State.lane_setFlow (s : State) (f : FlowIx) (x : Flow) : (s.setFlow f x).lane = s.lane := rfl
@[simp] theorem State.ring_setFlow (s : State) (f : FlowIx) (x : Flow) : (s.setFlow f x).ring = s.ring := rfl
@[simp] theorem State.mgmt_setFlow (s : State) (f : FlowIx) (x : Flow) : (s.setFlow f x).mgmt = s.mgmt := rfl
@[simp] theorem State.notice_setFlow (s : State) (f : FlowIx) (x : Flow) : (s.setFlow f x).notice = s.notice := rfl
@[simp] theorem State.choices_setFlow (s : State) (f : FlowIx) (x : Flow) : (s.setFlow f x).choices = s.choices := rfl
@[simp] theorem State.pending_setFlow (s : State) (f : FlowIx) (x : Flow) : (s.setFlow f x).pending = s.pending := rfl

@[simp] theorem State.pool_setRt (s : State) (f : FlowIx) (x : Runtime) : (s.setRt f x).pool = s.pool := rfl
@[simp] theorem State.groups_setRt (s : State) (f : FlowIx) (x : Runtime) : (s.setRt f x).groups = s.groups := rfl
@[simp] theorem State.lane_setRt (s : State) (f : FlowIx) (x : Runtime) : (s.setRt f x).lane = s.lane := rfl
@[simp] theorem State.ring_setRt (s : State) (f : FlowIx) (x : Runtime) : (s.setRt f x).ring = s.ring := rfl
@[simp] theorem State.mgmt_setRt (s : State) (f : FlowIx) (x : Runtime) : (s.setRt f x).mgmt = s.mgmt := rfl
@[simp] theorem State.notice_setRt (s : State) (f : FlowIx) (x : Runtime) : (s.setRt f x).notice = s.notice := rfl
@[simp] theorem State.choices_setRt (s : State) (f : FlowIx) (x : Runtime) : (s.setRt f x).choices = s.choices := rfl
@[simp] theorem State.pending_setRt (s : State) (f : FlowIx) (x : Runtime) : (s.setRt f x).pending = s.pending := rfl

@[simp] theorem State.pool_setWindow (s : State) (f : FlowIx) (x : Window) : (s.setWindow f x).pool = s.pool := rfl
@[simp] theorem State.groups_setWindow (s : State) (f : FlowIx) (x : Window) : (s.setWindow f x).groups = s.groups := rfl
@[simp] theorem State.lane_setWindow (s : State) (f : FlowIx) (x : Window) : (s.setWindow f x).lane = s.lane := rfl
@[simp] theorem State.ring_setWindow (s : State) (f : FlowIx) (x : Window) : (s.setWindow f x).ring = s.ring := rfl
@[simp] theorem State.mgmt_setWindow (s : State) (f : FlowIx) (x : Window) : (s.setWindow f x).mgmt = s.mgmt := rfl
@[simp] theorem State.notice_setWindow (s : State) (f : FlowIx) (x : Window) : (s.setWindow f x).notice = s.notice := rfl
@[simp] theorem State.choices_setWindow (s : State) (f : FlowIx) (x : Window) : (s.setWindow f x).choices = s.choices := rfl
@[simp] theorem State.pending_setWindow (s : State) (f : FlowIx) (x : Window) : (s.setWindow f x).pending = s.pending := rfl

@[simp] theorem State.flows_setGroup (s : State) (g : GroupIx) (y : Group) : (s.setGroup g y).flows = s.flows := rfl
@[simp] theorem State.pool_setGroup (s : State) (g : GroupIx) (y : Group) : (s.setGroup g y).pool = s.pool := rfl
@[simp] theorem State.groups_setGroup (s : State) (g : GroupIx) (y : Group) : (s.setGroup g y).groups = s.groups.set g.val y := rfl
@[simp] theorem State.lane_setGroup (s : State) (g : GroupIx) (y : Group) : (s.setGroup g y).lane = s.lane := rfl
@[simp] theorem State.ring_setGroup (s : State) (g : GroupIx) (y : Group) : (s.setGroup g y).ring = s.ring := rfl
@[simp] theorem State.mgmt_setGroup (s : State) (g : GroupIx) (y : Group) : (s.setGroup g y).mgmt = s.mgmt := rfl
@[simp] theorem State.notice_setGroup (s : State) (g : GroupIx) (y : Group) : (s.setGroup g y).notice = s.notice := rfl
@[simp] theorem State.choices_setGroup (s : State) (g : GroupIx) (y : Group) : (s.setGroup g y).choices = s.choices := rfl
@[simp] theorem State.pending_setGroup (s : State) (g : GroupIx) (y : Group) : (s.setGroup g y).pending = s.pending := rfl

@[simp] theorem State.flows_withPool (s : State) (x : Pool) : (s.withPool x).flows = s.flows := rfl
@[simp] theorem State.pool_withPool (s : State) (x : Pool) : (s.withPool x).pool = x := rfl
@[simp] theorem State.groups_withPool (s : State) (x : Pool) : (s.withPool x).groups = s.groups := rfl
@[simp] theorem State.lane_withPool (s : State) (x : Pool) : (s.withPool x).lane = s.lane := rfl
@[simp] theorem State.ring_withPool (s : State) (x : Pool) : (s.withPool x).ring = s.ring := rfl
@[simp] theorem State.mgmt_withPool (s : State) (x : Pool) : (s.withPool x).mgmt = s.mgmt := rfl
@[simp] theorem State.notice_withPool (s : State) (x : Pool) : (s.withPool x).notice = s.notice := rfl
@[simp] theorem State.choices_withPool (s : State) (x : Pool) : (s.withPool x).choices = s.choices := rfl
@[simp] theorem State.pending_withPool (s : State) (x : Pool) : (s.withPool x).pending = s.pending := rfl

@[simp] theorem State.flows_withLane (s : State) (x : LaneUnit) : (s.withLane x).flows = s.flows := rfl
@[simp] theorem State.pool_withLane (s : State) (x : LaneUnit) : (s.withLane x).pool = s.pool := rfl
@[simp] theorem State.groups_withLane (s : State) (x : LaneUnit) : (s.withLane x).groups = s.groups := rfl
@[simp] theorem State.lane_withLane (s : State) (x : LaneUnit) : (s.withLane x).lane = x := rfl
@[simp] theorem State.ring_withLane (s : State) (x : LaneUnit) : (s.withLane x).ring = s.ring := rfl
@[simp] theorem State.mgmt_withLane (s : State) (x : LaneUnit) : (s.withLane x).mgmt = s.mgmt := rfl
@[simp] theorem State.notice_withLane (s : State) (x : LaneUnit) : (s.withLane x).notice = s.notice := rfl
@[simp] theorem State.choices_withLane (s : State) (x : LaneUnit) : (s.withLane x).choices = s.choices := rfl
@[simp] theorem State.pending_withLane (s : State) (x : LaneUnit) : (s.withLane x).pending = s.pending := rfl

@[simp] theorem State.flows_withRing (s : State) (x : RingPort) : (s.withRing x).flows = s.flows := rfl
@[simp] theorem State.pool_withRing (s : State) (x : RingPort) : (s.withRing x).pool = s.pool := rfl
@[simp] theorem State.groups_withRing (s : State) (x : RingPort) : (s.withRing x).groups = s.groups := rfl
@[simp] theorem State.lane_withRing (s : State) (x : RingPort) : (s.withRing x).lane = s.lane := rfl
@[simp] theorem State.ring_withRing (s : State) (x : RingPort) : (s.withRing x).ring = x := rfl
@[simp] theorem State.mgmt_withRing (s : State) (x : RingPort) : (s.withRing x).mgmt = s.mgmt := rfl
@[simp] theorem State.notice_withRing (s : State) (x : RingPort) : (s.withRing x).notice = s.notice := rfl
@[simp] theorem State.choices_withRing (s : State) (x : RingPort) : (s.withRing x).choices = s.choices := rfl
@[simp] theorem State.pending_withRing (s : State) (x : RingPort) : (s.withRing x).pending = s.pending := rfl

@[simp] theorem State.flows_withMgmt (s : State) (x : Mgmt) : (s.withMgmt x).flows = s.flows := rfl
@[simp] theorem State.pool_withMgmt (s : State) (x : Mgmt) : (s.withMgmt x).pool = s.pool := rfl
@[simp] theorem State.groups_withMgmt (s : State) (x : Mgmt) : (s.withMgmt x).groups = s.groups := rfl
@[simp] theorem State.lane_withMgmt (s : State) (x : Mgmt) : (s.withMgmt x).lane = s.lane := rfl
@[simp] theorem State.ring_withMgmt (s : State) (x : Mgmt) : (s.withMgmt x).ring = s.ring := rfl
@[simp] theorem State.mgmt_withMgmt (s : State) (x : Mgmt) : (s.withMgmt x).mgmt = x := rfl
@[simp] theorem State.notice_withMgmt (s : State) (x : Mgmt) : (s.withMgmt x).notice = s.notice := rfl
@[simp] theorem State.choices_withMgmt (s : State) (x : Mgmt) : (s.withMgmt x).choices = s.choices := rfl
@[simp] theorem State.pending_withMgmt (s : State) (x : Mgmt) : (s.withMgmt x).pending = s.pending := rfl

@[simp] theorem State.flows_withNotice (s : State) (x : NoticeUnit) : (s.withNotice x).flows = s.flows := rfl
@[simp] theorem State.pool_withNotice (s : State) (x : NoticeUnit) : (s.withNotice x).pool = s.pool := rfl
@[simp] theorem State.groups_withNotice (s : State) (x : NoticeUnit) : (s.withNotice x).groups = s.groups := rfl
@[simp] theorem State.lane_withNotice (s : State) (x : NoticeUnit) : (s.withNotice x).lane = s.lane := rfl
@[simp] theorem State.ring_withNotice (s : State) (x : NoticeUnit) : (s.withNotice x).ring = s.ring := rfl
@[simp] theorem State.mgmt_withNotice (s : State) (x : NoticeUnit) : (s.withNotice x).mgmt = s.mgmt := rfl
@[simp] theorem State.notice_withNotice (s : State) (x : NoticeUnit) : (s.withNotice x).notice = x := rfl
@[simp] theorem State.choices_withNotice (s : State) (x : NoticeUnit) : (s.withNotice x).choices = s.choices := rfl
@[simp] theorem State.pending_withNotice (s : State) (x : NoticeUnit) : (s.withNotice x).pending = s.pending := rfl

@[simp] theorem State.flows_withPending (s : State) (x : List Instr) : (s.withPending x).flows = s.flows := rfl
@[simp] theorem State.pool_withPending (s : State) (x : List Instr) : (s.withPending x).pool = s.pool := rfl
@[simp] theorem State.groups_withPending (s : State) (x : List Instr) : (s.withPending x).groups = s.groups := rfl
@[simp] theorem State.lane_withPending (s : State) (x : List Instr) : (s.withPending x).lane = s.lane := rfl
@[simp] theorem State.ring_withPending (s : State) (x : List Instr) : (s.withPending x).ring = s.ring := rfl
@[simp] theorem State.mgmt_withPending (s : State) (x : List Instr) : (s.withPending x).mgmt = s.mgmt := rfl
@[simp] theorem State.notice_withPending (s : State) (x : List Instr) : (s.withPending x).notice = s.notice := rfl
@[simp] theorem State.choices_withPending (s : State) (x : List Instr) : (s.withPending x).choices = s.choices := rfl
@[simp] theorem State.pending_withPending (s : State) (x : List Instr) : (s.withPending x).pending = x := rfl

@[simp] theorem State.group_setFlow (s : State) (f : FlowIx) (x : Flow) (j : GroupIx) : (s.setFlow f x).group j = s.group j := rfl
@[simp] theorem State.group_setRt (s : State) (f : FlowIx) (x : Runtime) (j : GroupIx) : (s.setRt f x).group j = s.group j := rfl
@[simp] theorem State.group_setWindow (s : State) (f : FlowIx) (x : Window) (j : GroupIx) : (s.setWindow f x).group j = s.group j := rfl
@[simp] theorem State.flow_setGroup (s : State) (g : GroupIx) (y : Group) (j : FlowIx) : (s.setGroup g y).flow j = s.flow j := rfl
@[simp] theorem State.flow_withPool (s : State) (x : Pool) (j : FlowIx) : (s.withPool x).flow j = s.flow j := rfl
@[simp] theorem State.group_withPool (s : State) (x : Pool) (j : GroupIx) : (s.withPool x).group j = s.group j := rfl
@[simp] theorem State.flow_withLane (s : State) (x : LaneUnit) (j : FlowIx) : (s.withLane x).flow j = s.flow j := rfl
@[simp] theorem State.group_withLane (s : State) (x : LaneUnit) (j : GroupIx) : (s.withLane x).group j = s.group j := rfl
@[simp] theorem State.flow_withRing (s : State) (x : RingPort) (j : FlowIx) : (s.withRing x).flow j = s.flow j := rfl
@[simp] theorem State.group_withRing (s : State) (x : RingPort) (j : GroupIx) : (s.withRing x).group j = s.group j := rfl
@[simp] theorem State.flow_withMgmt (s : State) (x : Mgmt) (j : FlowIx) : (s.withMgmt x).flow j = s.flow j := rfl
@[simp] theorem State.group_withMgmt (s : State) (x : Mgmt) (j : GroupIx) : (s.withMgmt x).group j = s.group j := rfl
@[simp] theorem State.flow_withNotice (s : State) (x : NoticeUnit) (j : FlowIx) : (s.withNotice x).flow j = s.flow j := rfl
@[simp] theorem State.group_withNotice (s : State) (x : NoticeUnit) (j : GroupIx) : (s.withNotice x).group j = s.group j := rfl
@[simp] theorem State.flow_withPending (s : State) (x : List Instr) (j : FlowIx) : (s.withPending x).flow j = s.flow j := rfl
@[simp] theorem State.group_withPending (s : State) (x : List Instr) (j : GroupIx) : (s.withPending x).group j = s.group j := rfl

/-! ### Updates of different parts, and of one part twice: brought into one order, flows innermost -/

@[simp] theorem State.setFlow_setGroup (s : State) (g : GroupIx) (y : Group) (f : FlowIx) (x : Flow) :
    (s.setGroup g y).setFlow f x = (s.setFlow f x).setGroup g y := rfl
@[simp] theorem State.setFlow_withPool (s : State) (p : Pool) (f : FlowIx) (x : Flow) :
    (s.withPool p).setFlow f x = (s.setFlow f x).withPool p := rfl
@[simp] theorem State.setGroup_withPool (s : State) (p : Pool) (g : GroupIx) (y : Group) :
    (s.withPool p).setGroup g y = (s.setGroup g y).withPool p := rfl
@[simp] theorem State.setFlow_withLane (s : State) (l : LaneUnit) (f : FlowIx) (x : Flow) :
    (s.withLane l).setFlow f x = (s.setFlow f x).withLane l := rfl
@[simp] theorem State.setGroup_withLane (s : State) (l : LaneUnit) (g : GroupIx) (y : Group) :
    (s.withLane l).setGroup g y = (s.setGroup g y).withLane l := rfl
@[simp] theorem State.withPool_withLane (s : State) (l : LaneUnit) (p : Pool) :
    (s.withLane l).withPool p = (s.withPool p).withLane l := rfl
@[simp] theorem State.setFlow_withRing (s : State) (r : RingPort) (f : FlowIx) (x : Flow) :
    (s.withRing r).setFlow f x = (s.setFlow f x).withRing r := rfl
@[simp] theorem State.setGroup_withRing (s : State) (r : RingPort) (g : GroupIx) (y : Group) :
    (s.withRing r).setGroup g y = (s.setGroup g y).withRing r := rfl
@[simp] theorem State.withPool_withRing (s : State) (r : RingPort) (p : Pool) :
    (s.withRing r).withPool p = (s.withPool p).withRing r := rfl
@[simp] theorem State.withLane_withRing (s : State) (r : RingPort) (l : LaneUnit) :
    (s.withRing r).withLane l = (s.withLane l).withRing r := rfl
@[simp] theorem State.setFlow_withMgmt (s : State) (m : Mgmt) (f : FlowIx) (x : Flow) :
    (s.withMgmt m).setFlow f x = (s.setFlow f x).withMgmt m := rfl
@[simp] theorem State.setGroup_withMgmt (s : State) (m : Mgmt) (g : GroupIx) (y : Group) :
    (s.withMgmt m).setGroup g y = (s.setGroup g y).withMgmt m := rfl
@[simp] theorem State.withPool_withMgmt (s : State) (m : Mgmt) (p : Pool) :
    (s.withMgmt m).withPool p = (s.withPool p).withMgmt m := rfl
@[simp] theorem State.withLane_withMgmt (s : State) (m : Mgmt) (l : LaneUnit) :
    (s.withMgmt m).withLane l = (s.withLane l).withMgmt m := rfl
@[simp] theorem State.withRing_withMgmt (s : State) (m : Mgmt) (r : RingPort) :
    (s.withMgmt m).withRing r = (s.withRing r).withMgmt m := rfl
@[simp] theorem State.setFlow_withNotice (s : State) (n : NoticeUnit) (f : FlowIx) (x : Flow) :
    (s.withNotice n).setFlow f x = (s.setFlow f x).withNotice n := rfl
@[simp] theorem State.setGroup_withNotice (s : State) (n : NoticeUnit) (g : GroupIx) (y : Group) :
    (s.withNotice n).setGroup g y = (s.setGroup g y).withNotice n := rfl
@[simp] theorem State.withPool_withNotice (s : State) (n : NoticeUnit) (p : Pool) :
    (s.withNotice n).withPool p = (s.withPool p).withNotice n := rfl
@[simp] theorem State.withLane_withNotice (s : State) (n : NoticeUnit) (l : LaneUnit) :
    (s.withNotice n).withLane l = (s.withLane l).withNotice n := rfl
@[simp] theorem State.withRing_withNotice (s : State) (n : NoticeUnit) (r : RingPort) :
    (s.withNotice n).withRing r = (s.withRing r).withNotice n := rfl
@[simp] theorem State.withMgmt_withNotice (s : State) (n : NoticeUnit) (m : Mgmt) :
    (s.withNotice n).withMgmt m = (s.withMgmt m).withNotice n := rfl
@[simp] theorem State.setFlow_withPending (s : State) (q : List Instr) (f : FlowIx) (x : Flow) :
    (s.withPending q).setFlow f x = (s.setFlow f x).withPending q := rfl
@[simp] theorem State.setGroup_withPending (s : State) (q : List Instr) (g : GroupIx) (y : Group) :
    (s.withPending q).setGroup g y = (s.setGroup g y).withPending q := rfl
@[simp] theorem State.withPool_withPending (s : State) (q : List Instr) (p : Pool) :
    (s.withPending q).withPool p = (s.withPool p).withPending q := rfl
@[simp] theorem State.withLane_withPending (s : State) (q : List Instr) (l : LaneUnit) :
    (s.withPending q).withLane l = (s.withLane l).withPending q := rfl
@[simp] theorem State.withRing_withPending (s : State) (q : List Instr) (r : RingPort) :
    (s.withPending q).withRing r = (s.withRing r).withPending q := rfl
@[simp] theorem State.withMgmt_withPending (s : State) (q : List Instr) (m : Mgmt) :
    (s.withPending q).withMgmt m = (s.withMgmt m).withPending q := rfl
@[simp] theorem State.withNotice_withPending (s : State) (q : List Instr) (n : NoticeUnit) :
    (s.withPending q).withNotice n = (s.withNotice n).withPending q := rfl
@[simp] theorem State.withPool_withPool (s : State) (a b : Pool) : (s.withPool a).withPool b = s.withPool b := rfl
@[simp] theorem State.withLane_withLane (s : State) (a b : LaneUnit) : (s.withLane a).withLane b = s.withLane b := rfl
@[simp] theorem State.withRing_withRing (s : State) (a b : RingPort) : (s.withRing a).withRing b = s.withRing b := rfl
@[simp] theorem State.withMgmt_withMgmt (s : State) (a b : Mgmt) : (s.withMgmt a).withMgmt b = s.withMgmt b := rfl
@[simp] theorem State.withNotice_withNotice (s : State) (a b : NoticeUnit) : (s.withNotice a).withNotice b = s.withNotice b := rfl
@[simp] theorem State.withPending_withPending (s : State) (a b : List Instr) : (s.withPending a).withPending b = s.withPending b := rfl
@[simp] theorem State.withPool_self (s : State) : s.withPool s.pool = s := rfl
@[simp] theorem State.withLane_self (s : State) : s.withLane s.lane = s := rfl
@[simp] theorem State.withRing_self (s : State) : s.withRing s.ring = s := rfl
@[simp] theorem State.withMgmt_self (s : State) : s.withMgmt s.mgmt = s := rfl
@[simp] theorem State.withNotice_self (s : State) : s.withNotice s.notice = s := rfl
@[simp] theorem State.withPending_self (s : State) : s.withPending s.pending = s := rfl

end Sys2Proof.Machine
end

