-- ==== Sys2Proof/Laws/Ops.lean ====
section
/-! SUPPORT. One lemma per shared operation of Machine/Ops.lean: everything it does, in the words of Safety.lean. -/

namespace Sys2Proof.Machine

/-! ### Checks -/

theorem settled_eq {w : Nat} {α : Type} (x : BitVec w) (k : BitVec w → α) : settled x k = k x := by
  unfold settled
  split
  · next h => rw [← h, BitVec.ofNat_toNat, BitVec.setWidth_eq]
  · next n h => rw [← Nat.succ_eq_add_one, ← h, BitVec.ofNat_toNat, BitVec.setWidth_eq]

/-- The check procedure takes the bytes one after another (R171). -/
theorem crcOf_eq {w : Nat} (gen reg : BitVec w) (bs : List Byte) : crcOf gen reg bs = bs.foldl (crcByte gen) reg := by
  induction bs generalizing reg with
  | nil => rfl
  | cons b bs ih => rw [crcOf, settled_eq, ih]; rfl

/-! ### Raising and counting -/

theorem State.raise_eq (s : State) (r : Raise) : s.raise r = s.withNotice (s.notice.take r) := rfl

@[simp] theorem NoticeUnit.takeAll_nil (n : NoticeUnit) : n.takeAll [] = n := rfl

@[simp] theorem NoticeUnit.takeAll_cons (n : NoticeUnit) (r : Raise) (rs : List Raise) :
    n.takeAll (r :: rs) = (n.take r).takeAll rs := rfl

theorem NoticeUnit.takeAll_append (n : NoticeUnit) (rs qs : List Raise) :
    n.takeAll (rs ++ qs) = (n.takeAll rs).takeAll qs := List.foldl_append

theorem State.raiseAll_eq (s : State) (rs : List Raise) : s.raiseAll rs = s.withNotice (s.notice.takeAll rs) := by
  induction rs generalizing s with
  | nil => rfl
  | cons r rs ih => exact (ih (s.raise r)).trans rfl

theorem State.count_eq (s : State) (f : FlowIx) (c : Counter) : s.count f c = s.counted f c :=
  State.raiseAll_eq _ _

/-- What counting leaves. -/
@[simp] theorem State.flow_counted_self (s : State) (f : FlowIx) (c : Counter) :
    (s.counted f c).flow f = (s.flow f).bump c := State.flow_setFlow_self s f _

theorem State.flow_counted_ne (s : State) {f g : FlowIx} (c : Counter) (h : g ≠ f) :
    (s.counted f c).flow g = s.flow g := State.flow_setFlow_ne s _ h

@[simp] theorem State.group_counted (s : State) (f : FlowIx) (c : Counter) (g : GroupIx) :
    (s.counted f c).group g = s.group g := rfl

@[simp] theorem State.pool_counted (s : State) (f : FlowIx) (c : Counter) : (s.counted f c).pool = s.pool := rfl
@[simp] theorem State.lane_counted (s : State) (f : FlowIx) (c : Counter) : (s.counted f c).lane = s.lane := rfl
@[simp] theorem State.ring_counted (s : State) (f : FlowIx) (c : Counter) : (s.counted f c).ring = s.ring := rfl
@[simp] theorem State.mgmt_counted (s : State) (f : FlowIx) (c : Counter) : (s.counted f c).mgmt = s.mgmt := rfl
@[simp] theorem State.pending_counted (s : State) (f : FlowIx) (c : Counter) :
    (s.counted f c).pending = s.pending := rfl
@[simp] theorem State.notice_counted (s : State) (f : FlowIx) (c : Counter) :
    (s.counted f c).notice = s.notice.takeAll (s.wrapRaises f c) := rfl

/-! ### The pool -/

/-- A grant (R48, R53). -/
theorem State.takeBuffer_eq (s : State) (f : FlowIx) :
    s.takeBuffer f =
      ((s.setFlow f { s.flow f with held := (s.flow f).held + 1 }).withPool s.pool.granted).withNotice
        (s.notice.takeAll s.pool.lowRaises) := by
  by_cases ha : s.pool.armed = true <;> by_cases hf : s.pool.free - 1 < s.pool.threshold
  · have hn : decide (s.pool.threshold ≤ s.pool.free - 1) = false := decide_eq_false (by omega)
    simp [State.takeBuffer, Pool.granted, Pool.lowRaises, ha, hf, hn, State.raise_eq, plainRaise]
  · have hn : decide (s.pool.threshold ≤ s.pool.free - 1) = true := decide_eq_true (by omega)
    simp [State.takeBuffer, Pool.granted, Pool.lowRaises, ha, hf, hn]
    rfl
  all_goals
    simp [State.takeBuffer, Pool.granted, Pool.lowRaises, ha]
    rfl

/-- Releases (R49, R54). -/
theorem State.giveBack_eq (s : State) (f : FlowIx) (n : Nat) :
    s.giveBack f n =
      (s.setFlow f { s.flow f with held := (s.flow f).held - n }).withPool (s.pool.released n) := by
  unfold State.giveBack Pool.released
  split
  · next h => subst h; exact (State.setFlow_flow s f).symm
  · rfl

/-! ### Windows -/

/-- A flush (R40). -/
theorem State.flush_eq (s : State) (f : FlowIx) :
    s.flush f =
      (s.setFlow f ((s.flow f).emptied (s.flow f).rt)).withPool (s.pool.released (s.flow f).held) := by
  simp [State.flush, State.giveBack_eq, State.setWindow_eq, Flow.emptied, noEntries]

/-- What an advance or a spending of the head gives back: 1 if entry 0 is HELD, else nothing. -/
def Window.headHeld (w : Window) : Nat := if (w.entryAt 0).isHeld then 1 else 0

/-- Advancing the head (R36). -/
theorem State.advance_eq (s : State) (f : FlowIx) :
    s.advance f =
      (s.setFlow f { s.flow f with
          window := (s.flow f).window.advanced (s.flow f).record.depth
          held := (s.flow f).held - (s.flow f).window.headHeld }).withPool
        (s.pool.released (s.flow f).window.headHeld) := by
  simp [State.advance, State.giveBack_eq, State.setWindow_eq, Window.headHeld]

/-- Marking the head SPENT or discarding it (R37). -/
theorem State.spendHead_eq (s : State) (f : FlowIx) :
    s.spendHead f =
      (s.setFlow f { s.flow f with
          window := (s.flow f).window.withEntry 0 .spent
          held := (s.flow f).held - (s.flow f).window.headHeld }).withPool
        (s.pool.released (s.flow f).window.headHeld) := by
  simp [State.spendHead, State.giveBack_eq, State.setWindow_eq, Window.headHeld]

@[simp] theorem Window.entryAt_withEntry (w : Window) (k j : Nat) (e : Entry) :
    (w.withEntry k e).entryAt j = if j < 32 ∧ j = k then e else w.entryAt j := by
  unfold Window.entryAt Window.withEntry
  by_cases hj : j < 32 <;> simp [hj, Window.entryAt]

@[simp] theorem Window.entryAt_advanced (w : Window) (d j : Nat) :
    (w.advanced d).entryAt j = if j < 32 ∧ j + 1 < d then w.entryAt (j + 1) else .empty := by
  unfold Window.advanced
  by_cases hj : j < 32 <;> simp [Window.entryAt, hj]

@[simp] theorem Window.entryAt_none (h : Half) (j : Nat) :
    ({ head := h, entries := Vector.replicate 32 .empty } : Window).entryAt j = .empty := by
  simp [Window.entryAt]

/-! ### Commands -/

theorem State.reloadLease_eq (s : State) (c : QueuedCommand) : s.reloadLease c = s.reloaded c := rfl

theorem State.complete_eq (s : State) (c : QueuedCommand) (status : Status) (detail : Byte) (data : List Byte) :
    s.complete c status detail data = s.answered c status detail data := rfl

/-- The execution of the command in turn (R132, R135, R136). -/
theorem State.execute_eq (s : State) (isIt : QueuedCommand → Bool) (length : Nat) (needsClaim : Bool)
    (own : QueuedCommand → State → State) {c : QueuedCommand} (h : s.inTurn c) (hc : isIt c = true) :
    s.execute isIt length needsClaim own =
      if c.length ≠ length then (s.reloaded c).answered c .invalidField 0 []
      else if needsClaim = true ∧ s.mgmt.claim.holder ≠ some c.origin then
        (s.reloaded c).answered c .notHolder (holderByte s.mgmt.claim.holder) []
      else own c (s.reloaded c) := by
  obtain ⟨hd, hq⟩ := h
  cases hqq : s.mgmt.queue with
  | nil => simp [hqq] at hq
  | cons q qs =>
    simp only [hqq, List.head?_cons, Option.some.injEq] at hq
    subst hq
    have hh : (s.reloaded q).mgmt.claim.holder = s.mgmt.claim.holder := by
      unfold State.reloaded; split <;> rfl
    simp only [State.execute, hd, hqq, hc, if_true, State.reloadLease_eq, State.refuse, State.refuseNotHolder,
      State.complete_eq, State.holds, hh]
    by_cases hn : needsClaim = true <;> by_cases ho : s.mgmt.claim.holder = some q.origin <;> simp [hn, ho]

/-- An execution that the command in turn is not the one of does nothing (log entry 8). -/
theorem State.execute_other (s : State) (isIt : QueuedCommand → Bool) (length : Nat) (needsClaim : Bool)
    (own : QueuedCommand → State → State) (h : ∀ c, s.inTurn c → isIt c = false) :
    s.execute isIt length needsClaim own = s := by
  unfold State.execute
  split
  · next q qs hd hq =>
    have := h q ⟨hd, by simp [hq]⟩
    simp [this]
  · rfl

end Sys2Proof.Machine
end

