-- ==== Sys2Proof/Laws/Window.lean ====
section
/-! SUPPORT. What a placement does, in one equation for each of its operations; the increase of one counter beside
another; and what the settling of a group leaves. -/

namespace Sys2Proof.Machine

theorem State.wrapRaises_of {s t : State} {f : FlowIx} {c : Counter} (h : (t.flow f).counter c = (s.flow f).counter c) :
    t.wrapRaises f c = s.wrapRaises f c := by unfold State.wrapRaises; rw [h]
@[simp] theorem State.wrapRaises_withPool (s : State) (p : Pool) (f : FlowIx) (c : Counter) :
    (s.withPool p).wrapRaises f c = s.wrapRaises f c := rfl
@[simp] theorem State.wrapRaises_withNotice (s : State) (p : NoticeUnit) (f : FlowIx) (c : Counter) :
    (s.withNotice p).wrapRaises f c = s.wrapRaises f c := rfl
@[simp] theorem State.wrapRaises_setGroup (s : State) (g : GroupIx) (p : Group) (f : FlowIx) (c : Counter) :
    (s.setGroup g p).wrapRaises f c = s.wrapRaises f c := rfl
theorem State.wrapRaises_setFlow {s : State} {f : FlowIx} {x : Flow} {c : Counter}
    (h : x.counters = (s.flow f).counters) : (s.setFlow f x).wrapRaises f c = s.wrapRaises f c :=
  State.wrapRaises_of (by simp [h, Flow.counter])

/-- A placement (R34, R35, R48). -/
theorem State.place_eq (s : State) (f : FlowIx) (w : Window) :
    s.place f w =
      ((s.setFlow f { (s.flow f).bump .accepted with
          window := w, held := (s.flow f).held + 1
          rt := { (s.flow f).rt with silence := some 0, late := false } }).withPool s.pool.granted).withNotice
        (s.notice.takeAll (s.pool.lowRaises ++ s.wrapRaises f .accepted)) := by
  unfold State.place State.accept
  rw [State.takeBuffer_eq, State.count_eq, State.counted]
  simp [State.setRt_eq, State.setWindow_eq, NoticeUnit.takeAll_append, Flow.bump, Flow.counter, State.wrapRaises_setFlow]

/-- The prime check (R34). -/
theorem State.checkPrime_eq (s : State) (f : FlowIx) :
    s.checkPrime f = s.setFlow f { s.flow f with rt := { (s.flow f).rt with
      state := if (s.flow f).rt.state = .priming ∧ (s.flow f).record.prime ≤ (s.flow f).window.contiguous then .ready
        else (s.flow f).rt.state } } := by
  unfold State.checkPrime
  dsimp only
  split
  · next h => simp [State.setRt_eq, Runtime.toReady]
  · next h => exact (State.setFlow_flow s f).symm

/-- A granted placement (R31, R34). -/
theorem State.tryPlace_eq (s : State) (f : FlowIx) (w : Window) (h : s.grants f = true) :
    s.tryPlace f w =
      ((s.setFlow f { (s.flow f).bump .accepted with
          window := w, held := (s.flow f).held + 1
          rt := { (s.flow f).rt with
            silence := some 0, late := false
            state := if (s.flow f).rt.state = .priming ∧ (s.flow f).record.prime ≤ w.contiguous then .ready
              else (s.flow f).rt.state } }).withPool s.pool.granted).withNotice
        (s.notice.takeAll (s.pool.lowRaises ++ s.wrapRaises f .accepted)) := by
  unfold State.tryPlace
  rw [if_pos h, State.checkPrime_eq, State.place_eq]
  simp [Flow.bump]

/-- A refused placement (R31, R34). -/
theorem State.tryPlace_refused (s : State) (f : FlowIx) (w : Window) (h : s.grants f = false) :
    s.tryPlace f w = s.counted f .noBuffer := by
  unfold State.tryPlace
  rw [if_neg (by simp [h]), State.count_eq]

theorem State.grants_iff (s : State) (f : FlowIx) :
    s.grants f = true ↔ (s.flow f).held < (s.flow f).record.prime ∨ 0 < s.pool.free - s.outstanding := by
  simp [State.grants, State.sharedFree]

theorem Window.contiguous_startingAt (b : Block) : (Window.startingAt b).contiguous = 1 := by
  have : (Window.startingAt b).entries.toList = .held b :: List.replicate 31 .empty := by
    simp [Window.startingAt, noEntries]; rfl
  unfold Window.contiguous; rw [this]; rfl

@[simp] theorem Pool.released_zero (p : Pool) : p.released 0 = p := rfl

/-- A lawful flow in DISABLED, IDLE or CUT holds no buffer (R24, R44). -/
theorem Flow.held_eq_zero (fl : Flow) (h : fl.Lawful)
    (hs : fl.rt.state = .disabled ∨ fl.rt.state = .idle ∨ fl.rt.state = .cut) : fl.held = 0 := by
  have h4 := h.2.2.2.1 hs
  rw [h.2.2.1]
  unfold Window.fill
  rw [List.length_eq_zero_iff, List.filter_eq_nil_iff]
  intro e he
  obtain ⟨i, hi, rfl⟩ := List.getElem_of_mem he
  have := h4 i
  unfold Window.entryAt at this
  have hi' : i < 32 := by simpa using hi
  rw [dif_pos hi'] at this
  simp [this, Entry.isHeld]

/-- The placement a start and a jump make (R29, R32), with the prime check (R34). -/
theorem State.start_eq (s : State) (f : FlowIx) (b : Block) (hp : 1 ≤ (s.flow f).record.prime) :
    ((((s.flush f).setRt f .primed).place f (.startingAt b)).checkPrime f) =
      (((s.setFlow f { (s.flow f).bump .accepted with
          window := .startingAt b
          held := 1
          rt := { Runtime.primed with state := if (s.flow f).record.prime = 1 then .ready else .priming } }).withPool
        (s.pool.released (s.flow f).held).granted).withNotice
        (s.notice.takeAll ((s.pool.released (s.flow f).held).lowRaises ++ s.wrapRaises f .accepted))) := by
  rw [State.checkPrime_eq, State.place_eq, State.flush_eq, State.setRt_eq]
  have : ((s.flow f).record.prime ≤ 1) = ((s.flow f).record.prime = 1) := by apply propext; omega
  simp [Flow.bump, Flow.emptied, Window.contiguous_startingAt, Runtime.primed, Flow.counter, this, Runtime.reset, State.wrapRaises_setFlow]

/-- settleGroup: the one group it may change. -/
theorem State.settleGroup_eq (s : State) (g : GroupIx) :
    s.settleGroup g = s.setGroup g (if (s.group g).state = .running ∧ (allFlows.any (s.candidate g)) = false then
      (s.group g).cleared .forming else s.group g) := by
  unfold State.settleGroup
  split
  · rfl
  · simp [State.setGroup, State.group]
theorem Flow.counter_bump (fl : Flow) (c d : Counter) :
    (fl.bump c).counter d = if c = d then fl.counter c + 1 else fl.counter d := by
  unfold Flow.bump Flow.counter
  cases c <;> cases d <;> simp [Counter.index]

/-- What the settling of its group leaves after flow `f` has left PLAYING and HOLDING (R82). -/
theorem State.groupsAfterLoss_settle (s t : State) (f : FlowIx)
    (hg : ∀ g, t.group g = s.group g) (hn : ∀ x, x ≠ f → t.flow x = s.flow x)
    (hr : (t.flow f).record = (s.flow f).record) (hp : (t.flow f).rt.state.playsOrHolds = false) :
    s.groupsAfterLoss (t.settleGroupOf f) f := by
  intro g
  have hc : ∀ g x, t.candidate g x = if x = f then false else s.candidate g x := by
    intro g x
    split
    · next h => subst h; simp [State.candidate, hp]
    · next h => simp [State.candidate, State.isMember, hn x h]
  have hst : t.settleGroupOf f = match (s.flow f).record.group with | some g => t.settleGroup g | none => t := by
    unfold State.settleGroupOf; rw [hr]; all_goals rfl
  have hany : ∀ g, allFlows.any (t.candidate g) = false ↔ ∀ x, x ≠ f → s.candidate g x = false := by
    intro g
    rw [List.any_eq_false]
    constructor
    · intro h x hx; have := h x (List.mem_finRange x); rw [hc, if_neg hx] at this; simpa using this
    · intro h x _; rw [hc]; split
      · simp
      · next hx => simp [h x hx]
  rw [hst]
  unfold State.leads
  cases hm : (s.flow f).record.group with
  | none => simp [hg]
  | some k =>
    simp only [State.settleGroup_eq, State.group_setGroup, hany, hg]
    constructor
    · rintro ⟨h1, h2, h3⟩
      simp only [Option.some.injEq] at h2; subst h2
      simp [h1]; rw [if_pos h3]; rfl
    · intro h
      by_cases hk : g = k
      · subst hk; simp only [if_true]
        split
        · next h' => exact absurd ⟨h'.1, rfl, h'.2⟩ h
        · rfl
      · simp [hk]
theorem State.settleGroupOf_eq (s : State) (f : FlowIx) :
    s.settleGroupOf f = { s with groups := (s.settleGroupOf f).groups } := by
  unfold State.settleGroupOf State.settleGroup
  split
  · split <;> rfl
  · rfl
@[simp] theorem State.flow_settleGroupOf (s : State) (f x : FlowIx) : (s.settleGroupOf f).flow x = s.flow x := by
  rw [State.settleGroupOf_eq]; rfl
@[simp] theorem State.pool_settleGroupOf (s : State) (f : FlowIx) : (s.settleGroupOf f).pool = s.pool := by
  rw [State.settleGroupOf_eq]
@[simp] theorem State.notice_settleGroupOf (s : State) (f : FlowIx) : (s.settleGroupOf f).notice = s.notice := by
  rw [State.settleGroupOf_eq]
@[simp] theorem State.lane_settleGroupOf (s : State) (f : FlowIx) : (s.settleGroupOf f).lane = s.lane := by
  rw [State.settleGroupOf_eq]
@[simp] theorem State.ring_settleGroupOf (s : State) (f : FlowIx) : (s.settleGroupOf f).ring = s.ring := by
  rw [State.settleGroupOf_eq]
@[simp] theorem State.mgmt_settleGroupOf (s : State) (f : FlowIx) : (s.settleGroupOf f).mgmt = s.mgmt := by
  rw [State.settleGroupOf_eq]
@[simp] theorem State.choices_settleGroupOf (s : State) (f : FlowIx) : (s.settleGroupOf f).choices = s.choices := by
  rw [State.settleGroupOf_eq]
@[simp] theorem State.pending_settleGroupOf (s : State) (f : FlowIx) : (s.settleGroupOf f).pending = s.pending := by
  rw [State.settleGroupOf_eq]

end Sys2Proof.Machine
end

