-- ==== Sys2Proof/Laws/Playout.lean ====
section
/-! SUPPORT. What the operations of a block boundary, of a cut, of a stop and of the end of a drain do, in one equation
each; and an insertion. -/

namespace Sys2Proof.Machine

/-- A concealment block begins (R65, R69, R71, R89). -/
theorem State.concealNext_eq (s : State) (f : FlowIx) (k : Nat) :
    s.concealNext f k =
      ((s.setFlow f { (s.flow f).bump .concealed with
          window := (s.flow f).window.withEntry 0 .spent
          held := (s.flow f).held - (s.flow f).window.headHeld
          rt := (s.flow f).rt.toHolding (s.flow f).record k }).withPool
        (s.pool.released (s.flow f).window.headHeld)).withNotice
        (s.notice.takeAll (s.wrapRaises f .concealed)) := by
  unfold State.concealNext
  rw [State.spendHead_eq, State.count_eq, State.counted, State.setRt_eq]
  simp [Flow.bump, Flow.counter, State.wrapRaises_setFlow]

/-- The first operations of a boundary in PLAYING, whose head is held (R65 steps 1 to 3). -/
theorem State.finishBlock_eq (s : State) (f : FlowIx) (b : Block) (h : (s.flow f).window.entryAt 0 = .held b) :
    s.finishBlock f =
      ((s.setFlow f { (s.flow f).bump .played with
          window := (s.flow f).window.advanced (s.flow f).record.depth
          held := (s.flow f).held - 1
          rt := { (s.flow f).rt with lastFrame := some (b.frame (b.length - 1)), lastLen := some b.length } }).withPool
        (s.pool.released 1)).withNotice (s.notice.takeAll (s.wrapRaises f .played)) := by
  unfold State.finishBlock
  simp only [h]
  rw [State.advance_eq, State.count_eq, State.counted, State.setRt_eq]
  simp [Flow.bump, Flow.counter, State.wrapRaises_setFlow, Window.headHeld, h, Entry.isHeld]

/-- A cut (R72), before its group is settled. -/
theorem State.cutFlow_eq (s : State) (f : FlowIx) :
    s.cutFlow f =
      (((s.setFlow f ((s.flow f).emptied (s.flow f).rt.toCut)).withPool
        (s.pool.released (s.flow f).held)).withNotice (s.notice.take (flowStateRaise f .cut))).settleGroupOf f := by
  simp [State.cutFlow, State.flush_eq, State.setRt_eq, State.raise_eq, Flow.emptied]

/-- A stop (R76, R78), before its group is settled. -/
theorem State.stopFlow_eq (s : State) (f : FlowIx) (x : FlowState) :
    s.stopFlow f x =
      ((s.setFlow f ((s.flow f).emptied (.cleared x))).withPool (s.pool.released (s.flow f).held)).settleGroupOf f := by
  simp [State.stopFlow, State.flush_eq, State.setRt_eq, Flow.emptied]

/-- The end of a drain for whose flow the command in execution waits (R77, R142). -/
theorem State.endDrain_eq (s : State) (f : FlowIx) (forced : Bool) {c : QueuedCommand}
    (hd : s.mgmt.deferred = some f) (hq : s.mgmt.queue.head? = some c) :
    s.endDrain f forced =
      ((s.setFlow f ((s.flow f).emptied (.cleared .disabled))).withPool (s.pool.released (s.flow f).held)).answered
        c .done (flagByte forced) [] := by
  cases hqq : s.mgmt.queue with
  | nil => simp [hqq] at hq
  | cons q qs =>
    simp only [hqq, List.head?_cons, Option.some.injEq] at hq
    subst hq
    have : s.endDrain f forced =
        ((s.flush f).setRt f (.cleared .disabled)).answerDrain f forced := rfl
    rw [this, State.flush_eq, State.setRt_eq]
    simp [State.answerDrain, hqq, hd, State.complete_eq, Flow.emptied]

/-- The lowest flow that has a property is the one found. -/
theorem find?_allFlows (p : FlowIx → Bool) (f : FlowIx) (hf : p f = true) (hl : ∀ x, x < f → p x = false) :
    allFlows.find? p = some f := by
  rw [allFlows, List.find?_eq_some_iff_getElem]
  exact ⟨hf, f.val, by simp, by simp, fun j hj => by simpa using hl ⟨j, by omega⟩ hj⟩

/-- The candidates for a group's reference (R83). -/
theorem State.candidate_iff (s : State) (g : GroupIx) (f : FlowIx) :
    s.candidate g f = true ↔
      (s.flow f).record.group = some g ∧ ((s.flow f).rt.state = .playing ∨ (s.flow f).rt.state = .holding) := by
  unfold State.candidate State.isMember
  cases h : (s.flow f).rt.state <;> simp [FlowState.enabled, FlowState.playsOrHolds]

/-- An insertion changes the ring port and the offer alone (R118). -/
theorem State.insertFrame_frame (s : State) :
    s.insertFrame.flows = s.flows ∧ s.insertFrame.pool = s.pool ∧ s.insertFrame.groups = s.groups ∧
      s.insertFrame.lane = s.lane ∧ s.insertFrame.mgmt = s.mgmt ∧ s.insertFrame.choices = s.choices ∧
      s.insertFrame.pending = s.pending ∧ s.insertFrame.notice.entries = s.notice.entries ∧
      s.insertFrame.ring.own = s.ring.own ∧ s.insertFrame.ring.rx = s.ring.rx ∧
      s.insertFrame.ring.answers.length ≤ s.ring.answers.length := by
  unfold State.insertFrame
  split
  · split
    · next a rest h => simp [State.emit, h]
    · split <;> simp [State.emit]
  · simp [State.emit]

end Sys2Proof.Machine
end

