-- ==== Sys2Proof/Laws/Tick.lean ====
section
/-! SUPPORT. What a tick does before the timers that end at it are served, notices included; open orders; the assigned
unit. -/

namespace Sys2Proof.Machine

theorem State.noticeTick_eq (s : State) : s.noticeTick = s.withNotice s.noticeTick.notice := by
  unfold State.noticeTick; dsimp only
  split
  · split <;> rfl
  · rfl

theorem State.ticked_eq (s : State) : s.noticeTick.advanceTimers = s.ticked := by
  rw [State.noticeTick_eq]
  have hg : min 2 (s.lane.gap + 1) = if s.lane.gap < 2 then s.lane.gap + 1 else 2 := by split <;> omega
  simp only [State.advanceTimers, State.ticked, State.lane_withNotice, hg]
  rfl

@[simp] theorem State.flow_ticked (s : State) (f : FlowIx) :
    s.ticked.flow f = { s.flow f with
      rt := { (s.flow f).rt with
        silence := (s.flow f).rt.silence.map (· + 1), drain := (s.flow f).rt.drain.map (· + 1) } } := by
  simp [State.ticked, State.flow]

theorem State.tickTaking_eq (s : State) (first : List Falling) :
    s.tickTaking first = (first ++ s.openOrder (s.falling.filter fun x => !first.contains x)).foldl State.takeFalling
      (s.ticked.orderTaken (s.falling.filter fun x => !first.contains x)) := by
  simp only [State.tickTaking, State.ticked_eq]

@[simp] theorem State.openOrder_nil {α : Type} (s : State) : s.openOrder ([] : List α) = [] := rfl
@[simp] theorem State.orderTaken_nil {α : Type} (s : State) : s.orderTaken ([] : List α) = s := rfl
@[simp] theorem State.openOrder_one {α : Type} (s : State) (x : α) : s.openOrder [x] = [x] := rfl
@[simp] theorem State.orderTaken_one {α : Type} (s : State) (x : α) : s.orderTaken [x] = s := rfl

theorem perm_insertAt {α : Type} (x : α) : ∀ (l : List α) (i : Nat), (insertAt x l i).Perm (x :: l)
  | [], _ => by simp [insertAt]
  | y :: ys, i => by
    unfold insertAt
    split
    · exact List.Perm.refl _
    · exact ((perm_insertAt x ys (i - 1)).cons y).trans (List.Perm.swap x y ys)

theorem perm_orderBy {α : Type} : ∀ (n : Nat) (l : List α), (orderBy n l).Perm l
  | _, [] => by simp [orderBy]
  | n, x :: xs => by
    unfold orderBy
    exact (perm_insertAt x _ _).trans ((perm_orderBy _ xs).cons x)

/-- An open order is an order of the list. -/
theorem State.perm_openOrder {α : Type} (s : State) (l : List α) : (s.openOrder l).Perm l := by
  unfold State.openOrder
  split
  · exact List.Perm.refl _
  · exact List.Perm.refl _
  · exact perm_orderBy _ _

theorem State.orderTaken_eq {α : Type} (s : State) (l : List α) :
    s.orderTaken l = { s with choices := s.choices + (if 2 ≤ l.length then 1 else 0) } := by
  unfold State.orderTaken
  split <;> simp

/-! ### The Notice Unit's part of a tick (R155), in the words of Safety.lean -/

theorem NoticeEntry.aged_eq : NoticeEntry.aged = NoticeEntry.later := by
  funext e; unfold NoticeEntry.aged NoticeEntry.later; cases e.condition <;> rfl

theorem NoticeEntry.due_eq : NoticeEntry.due = NoticeEntry.isDue := by
  funext e; unfold NoticeEntry.due NoticeEntry.isDue; cases e.condition <;> rfl

theorem NoticeEntry.frameFor_eq (e : NoticeEntry) (holder : Option Addr) :
    e.frameFor holder =
      { dest := sendDest holder e, number := e.number, kind := e.kind, subject := e.subject, detail := e.detail
        repeats := e.repeats } := by
  unfold NoticeEntry.frameFor sendDest; cases e.kind <;> simp

/-- Steps 1 and 2 (R155). -/
theorem NoticeUnit.ageAndGiveUp_eq (n : NoticeUnit) :
    n.ageAndGiveUp = { n with
      entries := n.staying, offer := n.offerStaying, lost := n.lost + BitVec.ofNat 32 n.leaving.length } := by
  have h : (fun o : Offer => !(n.leaving.any fun e => e.number == o.number)) =
      fun o => n.leaving.all fun e => e.number != o.number := by
    funext o; rw [List.not_any_eq_all_not]; rfl
  have hg : NoticeEntry.givenUp = fun e => e.isDue && decide (3 ≤ e.sendCount) := by
    funext e; rw [NoticeEntry.givenUp, NoticeEntry.due_eq]
  unfold NoticeUnit.ageAndGiveUp
  simp only [NoticeEntry.aged_eq, hg]
  simp only [NoticeUnit.offerStaying, ← h]
  rfl

/-- A due entry may be chosen where the offer is empty or holds its own frame (R155 step 3). -/
theorem NoticeUnit.mayResend_iff (n : NoticeUnit) (e : NoticeEntry) :
    n.mayResend e = true ↔ e.isDue = true ∧ (n.offer = none ∨ ∃ o, n.offer = some o ∧ o.number = e.number) := by
  unfold NoticeUnit.mayResend; rw [NoticeEntry.due_eq]
  cases h : n.offer <;> simp

theorem State.notice_ticked (s : State) : s.ticked.notice = s.noticeTick.notice := by simp only [State.ticked]

/-- The first element that has a property is the one changed. -/
theorem updateFirst_at {α : Type} (p : α → Bool) (g : α → α) (before : List α) (x : α) (behind : List α)
    (hb : ∀ y ∈ before, p y = false) (hx : p x = true) :
    updateFirst p g (before ++ x :: behind) = before ++ g x :: behind := by
  induction before with
  | nil => simp [updateFirst, hx]
  | cons y ys ih =>
    simp only [List.cons_append, updateFirst, hb y (by simp), Bool.false_eq_true, if_false]
    rw [ih fun z hz => hb z (by simp [hz])]

/-- The first element that has a property is the one found. -/
theorem find?_at {α : Type} (p : α → Bool) (before : List α) (x : α) (behind : List α)
    (hb : ∀ y ∈ before, p y = false) (hx : p x = true) : (before ++ x :: behind).find? p = some x := by
  rw [List.find?_append, List.find?_eq_none.2 (by simpa using hb)]; simp [hx]

/-! ### Raises of several flows, in an open order -/

theorem State.foldl_raiseAll_eq (bs : List (List Raise)) (s : State) :
    bs.foldl State.raiseAll s = s.withNotice (s.notice.takeAll bs.flatten) := by
  induction bs generalizing s with
  | nil => simp [State.withNotice]
  | cons b bs ih =>
    simp only [List.foldl_cons, ih, State.raiseAll_eq]
    simp [NoticeUnit.takeAll_append, State.withNotice]

/-- The raises of several flows are those the mask has on, flow by flow in some order (R151; log entry 3). -/
theorem State.raiseOpen_eq (s : State) (batches : List (List Raise)) :
    ∃ order : List (List Raise),
      order.Perm ((batches.map fun b => b.filter fun r => s.maskOn r.kind).filter fun b => !b.isEmpty) ∧
      s.raiseOpen batches =
        { s with notice := s.notice.takeAll order.flatten, choices := (s.raiseOpen batches).choices } := by
  refine ⟨_, State.perm_openOrder s _, ?_⟩
  unfold State.raiseOpen
  simp only [State.foldl_raiseAll_eq, State.orderTaken_eq]
  rfl

/-! ### The own address -/

theorem State.assigned_iff (s : State) : s.assigned = true ↔ s.ring.own ≠ 63 := by simp [State.assigned]
theorem State.assigned_of (s : State) (h : s.ring.own ≠ 63) : s.assigned = true := s.assigned_iff.2 h
theorem State.not_assigned_of (s : State) (h : s.ring.own = 63) : s.assigned = false := by simp [State.assigned, h]
@[simp] theorem State.holderOfTag_withRing (s : State) (r : RingPort) (t : Half) : (s.withRing r).holderOfTag t = s.holderOfTag t := rfl

end Sys2Proof.Machine
end

