-- ==== Sys2Proof/Tests/Slice0.lean ====
section
/-! SUPPORT. The model's own tests: the well-formedness smoke test, the check procedure, a step or two of each family, and
for every statement with hypotheses a state that meets them, at the values where its clauses meet. -/

namespace Sys2Proof.Tests

open Sys2Proof.Machine

-- The tests are checked one after another: each takes a thread of its own otherwise, and their stacks add up.
set_option Elab.async false

/-! ### Helpers -/

/-- The state after a command; the state itself where there is none. -/
def after (i : Instr) (s : State) : State :=
  match exec i s with
  | .next t => t
  | .fault _ => s
  | .refused _ => s

/-- The check of `Flow.Lawful` on a written-out flow. -/
def lawful (fl : Flow) : Bool :=
  decide (2 ≤ fl.record.depth ∧ fl.record.depth ≤ 32 ∧ 1 ≤ fl.record.prime ∧ fl.record.prime ≤ fl.record.depth) &&
    (List.range 32).all (fun k => decide (fl.record.depth ≤ k → fl.window.entryAt k = .empty)) &&
    decide (fl.held = fl.window.fill) &&
    (List.range 32).all (fun k =>
      decide (fl.rt.state = .disabled ∨ fl.rt.state = .idle ∨ fl.rt.state = .cut → fl.window.entryAt k = .empty)) &&
    (List.range 32).all (fun k => decide (fl.window.entryAt k = .spent →
      k = 0 ∧ (fl.rt.state = .holding ∨ fl.rt.state.isDraining = true)))

/-- The check is sound: beyond the row of 32 every entry reads EMPTY. -/
theorem lawful_sound (fl : Flow) (h : lawful fl = true) : fl.Lawful := by
  simp only [lawful, Bool.and_eq_true, decide_eq_true_eq, List.all_eq_true, List.mem_range] at h
  obtain ⟨⟨⟨⟨h1, h2⟩, h3⟩, h4⟩, h5⟩ := h
  have beyond : ∀ k, ¬ k < 32 → fl.window.entryAt k = .empty := fun k hk => dif_neg hk
  refine ⟨h1, fun k hk => ?_, h3, fun hs k => ?_, fun k hk => ?_⟩
  · by_cases hl : k < 32
    · exact h2 k hl hk
    · exact beyond k hl
  · by_cases hl : k < 32
    · exact h4 k hl hs
    · exact beyond k hl
  · by_cases hl : k < 32
    · exact h5 k hl hk
    · rw [beyond k hl] at hk; cases hk

/-- A block of one channel and 6 sample frames, every sample 64. -/
def block (seq : Half) : Block := { seq := seq, length := 6, channels := 1, crcBad := false, samples := List.replicate 6 64 }

/-- A flow of one channel with head 100 and these first entries, its runtime record in a presenting state at `read` of a
block of 6. -/
def flowAt (x : FlowState) (read : Nat) (es : List Entry) : Flow :=
  { Flow.reset with
    record := { FlowRecord.default with tag := 7, channels := 1, mode := .fixedHalf, prime := 2 }
    window := { head := 100, entries := Vector.ofFn fun k : Fin 32 => es.getD k.val .empty }
    held := (es.filter Entry.isHeld).length
    rt := { Runtime.reset with
      state := x
      readIndex := if x.presenting then read else 0
      blockLen := if x.presenting then some 6 else none
      holdCount := if x = .holding then 1 else 0
      silence := if x.timed then some 0 else none
      drain := if x.isDraining then some 0 else none } }

/-- The unit with flow 0 as given, in UP with own address 5, and the lane clock PRESENT. -/
def unitOf (fl : Flow) : State :=
  (((State.reset.setFlow 0 fl).withPool { free := 384 - fl.held, threshold := 0, armed := true }).withLane
    { LaneUnit.reset with status := .present, gap := 0 }).withRing
    { RingPort.reset with rx := .up, carrier := true, own := 5 }

/-- A frame of a kind, from node 9, with its destination byte and the four kind fields, and a body. -/
def frameOf (kind flags : Nat) (hop : Nat) (dest : Byte) (fields body : List Byte) : List Byte :=
  buildFrame ([BitVec.ofNat 8 (kind * 32 + flags), BitVec.ofNat 8 hop, 9, dest] ++ fields ++ [0]) (padTo 296 body)

/-- A SAMPLE frame of tag 7, one channel, 6 sample frames. -/
def sampleOf (seq : Byte) : List Byte := frameOf 1 16 0 0 [0, 7, 0, seq] [0, 0, 64, 0, 0, 64]

/-- The same frame with its last CRC byte changed. -/
def badCrc (bs : List Byte) : List Byte := bs.set 307 (byteAt bs 307 + 1)

/-- A COMMAND frame to node 5 with tag 1. -/
def commandOf (code : Byte) (params : List Byte) : List Byte :=
  frameOf 2 0 0 5 [1, code, 0, natByte params.length] params

/-- A queued command of node 9. -/
def cmd (code : Byte) (params : List Byte) : QueuedCommand :=
  { origin := 9, tag := 1, code := code, length := params.length, params := params }

/-- A unit whose only queued command is `c`, with node 9 the holder of the claim. -/
def turn (s : State) (c : QueuedCommand) : State :=
  s.withMgmt { Mgmt.reset with queue := [c], claim := { holder := some 9, lease := 5, length := 10 } }

/-- The command is in turn, with this code, and its origin holds the claim. -/
def Ready (s : State) (code : Byte) (params : List Byte) : Prop :=
  (turn s (cmd code params)).inTurn (cmd code params) ∧ (cmd code params).code = code ∧
    (cmd code params).length = params.length ∧
    (turn s (cmd code params)).mgmt.claim.holder = some (cmd code params).origin

/-- Every written-out command is ready in the unit made for it. -/
theorem ready (s : State) (code : Byte) (params : List Byte) : Ready s code params := ⟨⟨rfl, rfl⟩, rfl, rfl, rfl⟩

/-- The status and detail an execution answers with. -/
def answerOf (s : State) (i : Instr) (code : Byte) (params : List Byte) : Option (Status × Byte) :=
  (after i (turn s (cmd code params))).ring.answers.getLast?.map fun a => (a.status, a.detail)

/-! ### Well-formed commands, codes, and the check procedure -/

/-- The one ill-formed command: a frame that is not 308 bytes long is refused by the check, and nothing comes of it. -/
theorem test_wellFormed :
    (Instr.frameReceived (List.replicate 307 0)).wellFormed = false ∧
      (Instr.frameReceived (List.replicate 308 0)).wellFormed = true ∧
      after (.frameReceived (List.replicate 307 0)) (unitOf .reset) = unitOf .reset := by decide +kernel

/-- The check value of the body CRC over the ASCII digits 1 to 9 (R171). -/
theorem test_bodyCrc : bodyCrc [0x31, 0x32, 0x33, 0x34, 0x35, 0x36, 0x37, 0x38, 0x39] = 0x29B1 := by decide +kernel

/-- No word of the table spells a command. -/
theorem test_noWord : decodeTableWord 32 0 = none ∧ State.reset.withFetchWord 32 0 = State.reset := by decide +kernel

/-- On an empty queue the unit idles. -/
theorem test_idle : step State.reset = .next State.reset := rfl

/-! ### Steps and the laws every step keeps -/

/-- A unit that runs: flow 0 plays in group 0, which is RUNNING with a debt of 7; a notice is SENT; one command waits in
the command queue and one answer in the answer queue and the cache. -/
def running : State :=
  let fl := flowAt .playing 3 [.held (block 100), .held (block 101)]
  let u := unitOf { fl with record := { fl.record with group := some 0 } }
  { turn u (cmd 0x01 []) with
    groups := u.groups.set 0 { Group.reset with state := .running, debt := 7 }
    ring := { u.ring with answers := [answerTo (cmd 0x03 [0]) .done 0 []] }
    mgmt := { (turn u (cmd 0x01 [])).mgmt with cache := [{ answerTo (cmd 0x03 [0]) .done 0 [] with tag := 2 }] }
    notice := { NoticeUnit.reset with
      mask := 0x1FF, nextNumber := 1
      entries := [{ number := 0, kind := .ringIn, subject := .none, detail := 1, repeats := 0, condition := .sent 19 20
                    sendCount := 1, fixedDest := none }] }
    pending := [.tick, .frameSyncEdge] }

/-- The laws hold of the running unit, and its next step is a next state: the statements on what every step keeps speak of
more than reset. -/
theorem witness_laws :
    (running.PoolLawful ∧ running.ReadsLawful ∧ running.TagsLawful) ∧
      (running.GroupsLawful ∧ running.ReferencesLawful) ∧
      (running.ManagementLawful ∧ running.mgmt.claim.Lawful) ∧
      (running.notice.Lawful ∧ running.notice.NumbersDistinct) ∧
      (running.HeadsLawful ∧ running.DrainLawful) ∧
      step running = .next (after .tick { running with pending := [.frameSyncEdge] }) := by
  have hflow : ∀ f : FlowIx, lawful (running.flow f) = true := by decide +kernel
  have honly : ∀ f : FlowIx, ∀ k : Fin 32, (running.flow f).window.entryAt k.val = .held (block 100) ∨
      (running.flow f).window.entryAt k.val = .held (block 101) ∨ (running.flow f).window.entryAt k.val = .empty := by
    decide +kernel
  have hblocks : ∀ (f : FlowIx) (k : Nat) (b : Block), (running.flow f).window.entryAt k = .held b →
      b.length = 6 ∨ b.length = 12 := by
    intro f k b hb
    by_cases hk : k < 32
    · rcases honly f ⟨k, hk⟩ with h | h | h <;> simp only [h] at hb <;> cases hb <;> exact Or.inl rfl
    · have : (running.flow f).window.entryAt k = .empty := dif_neg hk
      rw [this] at hb; cases hb
  refine ⟨⟨⟨fun f => lawful_sound _ (hflow f), by decide +kernel, by decide +kernel⟩, fun f => ⟨hblocks f, ?_, ?_, ?_⟩,
    ⟨by decide +kernel, by decide +kernel⟩⟩, ⟨?_, ?_⟩, ⟨⟨by decide, by decide, by decide, by decide⟩, by
      unfold Claim.Lawful; decide⟩, ⟨⟨by decide, by decide, ?_⟩, by unfold NoticeUnit.NumbersDistinct; decide⟩,
    ⟨fun f => ⟨fun h => ?_, fun h => ?_⟩, by decide +kernel, fun f h => by cases h⟩, rfl⟩
  · have h : ∀ f : FlowIx, (running.flow f).rt.lastLen = none := by decide +kernel
    intro n hn; rw [h f] at hn; cases hn
  · have h : ∀ f : FlowIx, (running.flow f).rt.state.presenting = true →
        (running.flow f).rt.blockLen = some 6 ∧ (running.flow f).rt.readIndex ≤ 6 := by decide +kernel
    intro hp; exact ⟨6, (h f hp).1, Or.inl rfl, (h f hp).2⟩
  · have h : ∀ f : FlowIx, (running.flow f).rt.state.presenting = false →
        (running.flow f).rt.blockLen = none ∧ (running.flow f).rt.readIndex = 0 := by decide +kernel
    exact h f
  · unfold State.GroupsLawful Group.Lawful; decide +kernel
  · unfold State.ReferencesLawful; decide +kernel
  · exact fun k x => ⟨List.length_filter_le _ _, List.length_filter_le _ _⟩
  · have hp : ∀ f : FlowIx, ((running.flow f).rt.state = .ready ∨ (running.flow f).rt.state = .playing ∨
        (running.flow f).rt.state = .draining .playing) →
        (running.flow f).window.entryAt 0 = .held (block 100) := by decide +kernel
    exact ⟨_, hp f h⟩
  · have hn : ∀ f : FlowIx, ¬ ((running.flow f).rt.state = .holding ∨ (running.flow f).rt.state = .draining .holding) := by
      decide +kernel
    exact absurd h (hn f)

/-! ### The ring port -/

/-- A unit in a receive state with these run counts. -/
def ringIn (rx : RxState) (good bad : Nat) (carrier : Bool) : State :=
  (unitOf .reset).withRing { RingPort.reset with rx := rx, goodRun := good, badRun := bad, carrier := carrier, own := 5 }

/-- Receive synchronisation at its boundary counts: the 7th and 8th good header, the 3rd and 4th bad one, and the carrier
events. -/
theorem witness_receiveSynchronisation :
    (fillFrame 9).length = 308 ∧ goodHeader (fillFrame 9) = true ∧ (List.replicate 308 (0 : Byte)).length = 308 ∧
      goodHeader (List.replicate 308 0) = false ∧
      (after (.frameReceived (fillFrame 9)) (ringIn .acquiring 6 0 true)).ring.goodRun = 7 ∧
      (after (.frameReceived (fillFrame 9)) (ringIn .acquiring 7 0 true)).ring.rx = .up ∧
      (after (.frameReceived (List.replicate 308 0)) (ringIn .acquiring 7 0 true)).ring.goodRun = 0 ∧
      (after (.frameReceived (List.replicate 308 0)) (ringIn .up 0 2 true)).ring.badRun = 3 ∧
      (after (.frameReceived (List.replicate 308 0)) (ringIn .up 0 3 true)).ring.rx = .acquiring ∧
      (after (.frameReceived (List.replicate 308 0)) (ringIn .up 0 3 false)).ring.rx = .down ∧
      (after .carrierPresent (ringIn .down 0 0 false)).ring.rx = .acquiring ∧
      (after .carrierLoss (ringIn .acquiring 3 0 true)).ring.rx = .down ∧
      (after .carrierLoss (ringIn .up 0 1 true)).ring.rx = .down := by decide +kernel

/-- What a frame's header says: length, good header, kind, hop count, origin, destination. -/
def header (bs : List Byte) : Nat × Bool × Nat × Nat × Addr × Addr :=
  (bs.length, goodHeader bs, kindCode bs, hopCount bs, frameOrigin bs, frameDest bs)

/-- A frame for every row of the decision, in a unit in UP whose flow 0 has tag 7 and taps, or takes; the own frame and the
orphan at hop count 63. -/
theorem witness_decision :
    [fillFrame 9, fillFrame 5, noticeFrame 5 ⟨9, 0, .ringIn, .none, 1, 0⟩, frameOf 1 16 63 0 [0, 7, 0, 100] [],
        sampleOf 100, frameOf 1 16 62 0 [0, 8, 0, 100] [], commandOf 0x01 [], frameOf 2 0 0 62 [1, 1, 0, 0] [],
        frameOf 2 0 0 6 [1, 1, 0, 0] [], frameOf 5 0 0 63 [1, 61, 0, 3] [], frameOf 3 0 0 5 [1, 1, 0, 0] [],
        frameOf 4 0 62 5 [1, 1, 0, 0] []].map header =
      [(308, true, 0, 0, 9, 63), (308, true, 0, 0, 5, 63), (308, true, 4, 0, 5, 9), (308, true, 1, 63, 9, 0),
        (308, true, 1, 0, 9, 0), (308, true, 1, 62, 9, 0), (308, true, 2, 0, 9, 5), (308, true, 2, 0, 9, 62),
        (308, true, 2, 0, 9, 6), (308, true, 5, 0, 9, 63), (308, true, 3, 0, 9, 5), (308, true, 4, 62, 9, 5)] ∧
      (unitOf (flowAt .idle 0 [])).ring.rx = .up ∧ (unitOf (flowAt .idle 0 [])).ring.own = 5 ∧
      (unitOf (flowAt .idle 0 [])).holderOfTag 7 = some 0 ∧ (unitOf (flowAt .idle 0 [])).holderOfTag 8 = none ∧
      ((unitOf (flowAt .idle 0 [])).flow 0).record.tap = .tap ∧
      ((unitOf { flowAt .idle 0 [] with record := { (flowAt .idle 0 []).record with tap := .take } }).flow 0).record.tap =
        .take := by decide +kernel

/-- A tapped SAMPLE frame is placed and forwarded one hop on; a command is taken and its place used for insertion. -/
theorem test_frameReceived :
    ((after (.frameReceived (sampleOf 100)) (unitOf (flowAt .idle 0 []))).flow 0).rt.state = .priming ∧
      ((after (.frameReceived (sampleOf 100)) (unitOf (flowAt .idle 0 []))).ring.ringOut.map hopCount) = some 1 ∧
      (after (.frameReceived (commandOf 0x01 [])) (unitOf .reset)).mgmt.queue = [cmd 0x01 []] := by decide +kernel

/-- Insertions: an answer before a notice, a notice before FILL, FILL alone while unassigned; and one for a FILL frame
received in UP. -/
theorem witness_insertion :
    let r := { RingPort.reset with own := 5 }
    let a := answerTo (cmd 0x01 []) .done 0 []
    let o : Offer := ⟨9, 0, .ringIn, .none, 1, 0⟩
    let n := { NoticeUnit.reset with offer := some o }
    (after .ownRateFrame ((State.reset.withRing { r with answers := [a] }).withNotice n)).ring.answers = [] ∧
      (after .ownRateFrame ((State.reset.withRing { r with answers := [a] }).withNotice n)).notice.offer = some o ∧
      (after .ownRateFrame ((State.reset.withRing r).withNotice n)).notice.offer = none ∧
      (after .ownRateFrame (State.reset.withRing r)).ring.ringOut = some (fillFrame 5) ∧
      (after .ownRateFrame (State.reset.withNotice n)).ring.ringOut = some (fillFrame 63) ∧
      (after (.frameReceived (fillFrame 9)) (State.reset.withRing { r with rx := .up, answers := [a] })).ring.answers =
        [] := by decide +kernel

/-- A frame that may be forwarded, at the last hop count that may be. -/
theorem witness_sentFrames : (frameOf 4 0 62 5 [1, 1, 0, 0] []).length = 308 ∧
    goodHeader (frameOf 4 0 62 5 [1, 1, 0, 0] []) = true ∧ hopCount (frameOf 4 0 62 5 [1, 1, 0, 0] []) < 63 := by
  decide +kernel

/-- The own address a rollcall of a mode leaves, for a next address at each end of 1 to 61, starting from `own`. -/
def rollcalled (own : Addr) (mode next : Byte) : Addr :=
  (after (.frameReceived (frameOf 5 0 0 63 [mode, next, 0, 3] []))
    ((unitOf .reset).withRing { RingPort.reset with rx := .up, carrier := true, own := own })).ring.own

/-- Rollcalls at the ends of the range: RENUMBER moves an assigned unit, FILL_IN an unassigned one alone. -/
theorem witness_rollcall :
    header (frameOf 5 0 0 63 [1, 61, 0, 3] []) = (308, true, 5, 0, 9, 63) ∧
      header (frameOf 5 0 0 63 [2, 61, 0, 3] []) = (308, true, 5, 0, 9, 63) ∧
      byteAt (frameOf 5 0 0 63 [1, 61, 0, 3] []) 4 = 1 ∧ byteAt (frameOf 5 0 0 63 [2, 61, 0, 3] []) 4 = 2 ∧
      [(1 : Byte), 61, 0, 62, 5].map (rollcalled 5 1) = [1, 61, 63, 63, 5] ∧
      [(1 : Byte), 61, 0, 62].map (rollcalled 63 2) = [1, 61, 63, 63] ∧
      [(1 : Byte), 61, 0, 62].map (rollcalled 5 2) = [5, 5, 5, 5] := by decide +kernel

/-- A rollcall of neither mode changes no address. -/
theorem witness_rollcallOther :
    header (frameOf 5 0 0 63 [3, 61, 0, 3] []) = (308, true, 5, 0, 9, 63) ∧
      [rollcalled 63 0 7, rollcalled 63 3 7, rollcalled 5 3 7] = [63, 63, 5] := by decide +kernel

/-- A unit with these commands queued, answers queued, and answers cached. -/
def holding (queue : List QueuedCommand) (answers cache : List Answer) : State :=
  ((unitOf .reset).withRing { (unitOf .reset).ring with answers := answers }).withMgmt
    { Mgmt.reset with queue := queue, cache := cache }

/-- A command frame for every row of R127 to R129, with room for one answer and with none. -/
theorem witness_taking :
    let f := commandOf 0x01 []
    let c := cmd 0x01 []
    let a := answerTo c .done 0 []
    bodyGood (badCrc f) = false ∧ bodyGood f = true ∧ frameOrigin f = 9 ∧ byteAt f 5 = 0x01 ∧
      bodyGood (f.set 2 62) = true ∧ frameOrigin (f.set 2 62) = 62 ∧ frameOrigin (f.set 2 63) = 63 ∧
      bodyGood (commandOf 0x11 [4]) = true ∧ byteAt (commandOf 0x11 [4]) 5 = 0x11 ∧
      ((holding [c] [] []).takeCommand f).mgmt.absorbed = 1 ∧
      ((holding [] (List.replicate 7 a) [a]).takeCommand f).ring.answers.length = 8 ∧
      ((holding [] (List.replicate 8 a) [a]).takeCommand f).mgmt.lost = 1 := by decide +kernel

/-- A new command at each end of the answer room and of the command queue. -/
theorem witness_newCommand :
    let f := commandOf 0x01 []
    let other (n : Nat) : QueuedCommand := { cmd 0x01 [] with tag := BitVec.ofNat 8 (n + 2) }
    let a := answerTo (other 0) .done 0 []
    bodyGood f = true ∧ frameOrigin f = 9 ∧ byteAt f 5 = 0x01 ∧ byteAt f 4 = 1 ∧
      ((holding ((List.range 3).map other) (List.replicate 4 a) []).takeCommand f).mgmt.queue.length = 4 ∧
      ((holding ((List.range 4).map other) (List.replicate 3 a) []).takeCommand f).ring.answers.length = 4 ∧
      ((holding ((List.range 4).map other) (List.replicate 4 a) []).takeCommand f).mgmt.lost = 1 := by decide +kernel

/-! ### Stream match and placement -/

/-- The unit with flow 0 of another block mode, CRC policy, or state. -/
def flowWith (mode : BlockMode) (crc : CrcPolicy) (x : FlowState) : State :=
  unitOf { flowAt x 0 [] with record := { (flowAt x 0 []).record with mode := mode, crc := crc } }

/-- A frame for every row of R11 to R14: a drain, a misfit of channels and of length, a good and a bad body CRC. -/
theorem witness_matched :
    let f := sampleOf 100
    f.length = 308 ∧ bodyGood f = true ∧ bodyGood (badCrc f) = false ∧ sampleChannels f = 1 ∧ halfFlag f = true ∧
      ((flowWith .fixedHalf .discard (.draining .playing)).flow 0).rt.state.isDraining = true ∧
      (((flowWith .fixedFull .discard .idle).matched 0 f).flow 0).counter .formatErrors = 1 ∧
      (((flowWith .fixedHalf .discard .idle).matched 0 f).flow 0).counter .accepted = 1 ∧
      (((flowWith .perFrame .discard .idle).matched 0 (badCrc f)).flow 0).counter .crcErrors = 1 ∧
      (((flowWith .perFrame .discard .idle).matched 0 (badCrc f)).flow 0).counter .accepted = 0 ∧
      (((flowWith .fixedHalf .keep .idle).matched 0 (badCrc f)).flow 0).window.headCrcBad = true := by decide +kernel

/-- The bands meet at these offsets, for the smallest and the largest depth. -/
theorem witness_offset :
    (2 ≤ 2 ∧ 2 ≤ 32) ∧ (2 ≤ 32 ∧ 32 ≤ 32) ∧
      [(-512 : Int), -511, -1, 0, 1, 2, 31, 32, 511, 512].map (fun d => (jumps d, liesBeyond 2 d, liesBeyond 32 d)) =
        [(true, false, false), (false, false, false), (false, false, false), (false, false, false),
          (false, false, false), (false, true, false), (false, true, false), (false, true, true), (false, true, true),
          (true, true, true)] ∧
      seqOffset 0 65535 = 1 ∧ seqOffset 65535 0 = -1 ∧ seqOffset 32768 0 = -32768 := by decide +kernel

/-- Flows for an arrival in every state it may find: empty, PRIMING, READY, PLAYING, and HOLDING behind a SPENT head. -/
theorem lawful_arrivals : ∀ fl ∈
    [flowAt .idle 0 [], flowAt .cut 0 [], flowAt .priming 0 [.held (block 100)],
      flowAt .ready 0 [.held (block 100), .held (block 101)],
      flowAt .playing 3 [.held (block 100), .empty, .held (block 102)], flowAt .holding 3 [.spent, .held (block 101)]],
    fl.Lawful := by
  intro fl h
  exact lawful_sound fl ((by decide +kernel : ∀ fl ∈
    [flowAt .idle 0 [], flowAt .cut 0 [], flowAt .priming 0 [.held (block 100)],
      flowAt .ready 0 [.held (block 100), .held (block 101)],
      flowAt .playing 3 [.held (block 100), .empty, .held (block 102)], flowAt .holding 3 [.spent, .held (block 101)]],
    lawful fl = true) fl h)

/-- A start of an IDLE and of a CUT flow, and a jump at each end of the band. -/
theorem witness_startAndJump :
    ((unitOf (flowAt .idle 0 [])).flow 0).Lawful ∧ ((unitOf (flowAt .cut 0 [])).flow 0).Lawful ∧
      ((unitOf (flowAt .priming 0 [.held (block 100)])).flow 0).Lawful ∧
      ((unitOf (flowAt .idle 0 [])).flow 0).rt.state = .idle ∧ ((unitOf (flowAt .cut 0 [])).flow 0).rt.state = .cut ∧
      seqOffset (block 612).seq 100 = 512 ∧ seqOffset (block 65124).seq 100 = -512 ∧
      (((unitOf (flowAt .priming 0 [.held (block 100)])).arrive 0 (block 612)).flow 0).window.head = 612 :=
  ⟨lawful_arrivals _ (by decide +kernel), lawful_arrivals _ (by decide +kernel), lawful_arrivals _ (by decide +kernel),
    by decide +kernel⟩

/-- The four discards where they begin and end: late at -1 and -511, and at 0 behind a SPENT head, duplicate, beyond at
the depth and at 511; a PRIMING flow of depth 8 that holds offset 0 is late from -8 on. -/
theorem witness_discards :
    let p := unitOf (flowAt .playing 3 [.held (block 100), .empty, .held (block 102)])
    let h := unitOf (flowAt .holding 3 [.spent])
    let r := unitOf (flowAt .priming 0 [.held (block 100)])
    (seqOffset 99 100 = -1 ∧ seqOffset 65125 100 = -511 ∧ seqOffset 92 100 = -8 ∧ (r.flow 0).window.highest = 0) ∧
      ((p.arrive 0 (block 99)).flow 0).counter .late = 1 ∧ ((p.arrive 0 (block 65125)).flow 0).counter .late = 1 ∧
      ((r.arrive 0 (block 92)).flow 0).counter .late = 1 ∧ ((r.arrive 0 (block 93)).flow 0).counter .late = 0 ∧
      ((h.arrive 0 (block 100)).flow 0).counter .late = 1 ∧ ((p.arrive 0 (block 100)).flow 0).counter .duplicate = 1 ∧
      ((p.arrive 0 (block 108)).flow 0).counter .beyond = 1 ∧
      ((p.arrive 0 (block 611)).flow 0).counter .beyond = 1 := by decide +kernel

/-- A placement below the prime depth, one from shared buffers, and one refused because none is shared. -/
theorem witness_normal :
    let below := unitOf (flowAt .priming 0 [.held (block 100)])
    let shared := unitOf (flowAt .playing 3 [.held (block 100), .empty, .held (block 102)])
    let none' := shared.withPool { shared.pool with free := 0 }
    (below.flow 0).Lawful ∧ (shared.flow 0).Lawful ∧ (none'.flow 0).Lawful ∧
      ((below.flow 0).held < (below.flow 0).record.prime ∧ (below.flow 0).window.entryAt 1 = .empty) ∧
      (¬ (shared.flow 0).held < (shared.flow 0).record.prime ∧ 0 < shared.pool.free - shared.outstanding) ∧
      none'.grants 0 = false ∧ ((below.arrive 0 (block 101)).flow 0).rt.state = .ready ∧
      ((shared.arrive 0 (block 101)).flow 0).counter .accepted = 1 ∧
      ((none'.arrive 0 (block 107)).flow 0).counter .noBuffer = 1 :=
  ⟨lawful_arrivals _ (by decide +kernel), lawful_arrivals _ (by decide +kernel), lawful_arrivals _ (by decide +kernel),
    by decide +kernel⟩

/-- A priming rebase as far back as it goes, one refused, and an arrival one further behind. -/
theorem witness_rebase :
    let u := unitOf (flowAt .priming 0 [.held (block 100)])
    let full := flowAt .priming 0 [.held (block 100), .empty, .held (block 102)]
    let none' := (unitOf full).withPool { (unitOf full).pool with free := 0 }
    (u.flow 0).Lawful ∧ (none'.flow 0).Lawful ∧ none'.grants 0 = false ∧
      seqOffset (block 93).seq (u.flow 0).window.head = -7 ∧
      ((u.arrive 0 (block 93)).flow 0).window.entryAt 7 = .held (block 100) ∧
      ((u.arrive 0 (block 92)).flow 0).counter .late = 1 ∧
      ((none'.arrive 0 (block 99)).flow 0).counter .noBuffer = 1 :=
  ⟨lawful_arrivals _ (by decide +kernel), lawful_sound _ (by decide +kernel), by decide +kernel⟩

/-! ### Block boundaries -/

/-- A boundary that is due alone, and leaves none due. -/
theorem witness_due :
    let s := unitOf (flowAt .playing 6 [.held (block 100)])
    (s.flow 0).boundaryDue = true ∧ (∀ x : FlowIx, x ≠ 0 → (s.flow x).boundaryDue = false) ∧
      (∀ x : FlowIx, ((after (.blockBoundary 0) s).flow x).boundaryDue = false) ∧
      (unitOf (flowAt .playing 5 [.held (block 100)])).boundary 0 = unitOf (flowAt .playing 5 [.held (block 100)]) := by
  decide +kernel

/-- A due boundary of a PLAYING flow with the next block there, and with it missing. -/
theorem witness_playing :
    let next := unitOf (flowAt .playing 6 [.held (block 100), .held (block 101)])
    let gap := unitOf (flowAt .playing 6 [.held (block 100), .empty, .held (block 102)])
    (next.flow 0).Lawful ∧ (gap.flow 0).Lawful ∧
      (next.flow 0).rt.blockLen = some (next.flow 0).rt.readIndex ∧ (next.flow 0).window.entryAt 1 = .held (block 101) ∧
      (gap.flow 0).window.entryAt 1 = .empty ∧ ((after (.blockBoundary 0) next).flow 0).rt.state = .playing ∧
      ((after (.blockBoundary 0) gap).flow 0).rt.state = .holding :=
  ⟨lawful_sound _ (by decide +kernel), lawful_sound _ (by decide +kernel), by decide +kernel⟩

/-- A due boundary of a HOLDING flow with a hold count, hold exit, fade length and hold limit, and the next block there or
missing. -/
def holds (k : Nat) (exit : HoldExit) (fade limit : Nat) (found : Bool) : State :=
  let fl := flowAt .holding 6 (if found then [.spent, .held (block 101)] else [.spent])
  unitOf { fl with
    record := { fl.record with exit := exit, fade := fade, holdLimit := limit }, rt := { fl.rt with holdCount := k } }

/-- The five cases of a HOLDING boundary, where they meet: the fade runs at its length, is over one block later; the hold
limit is reached at its count. -/
theorem witness_holding :
    ((holds 1 .atOnce 4 8 true).flow 0).Lawful ∧ ((holds 8 .atOnce 4 8 false).flow 0).Lawful ∧
      ((holds 1 .atOnce 4 8 true).flow 0).rt.blockLen = some ((holds 1 .atOnce 4 8 true).flow 0).rt.readIndex ∧
      [holds 1 .atOnce 4 8 true, holds 4 .reprime 4 8 true, holds 5 .reprime 4 8 true, holds 7 .atOnce 4 8 false,
        holds 8 .atOnce 4 8 false].map (fun s => ((after (.blockBoundary 0) s).flow 0).rt.state) =
        [.playing, .holding, .priming, .holding, .cut] :=
  ⟨lawful_sound _ (by decide +kernel), lawful_sound _ (by decide +kernel), by decide +kernel⟩

/-- A RUNNING group 0 with a debt and interval count (interval 4, target 2, hysteresis 0), and flow 0 its member, with this
many contiguous blocks. -/
def grouped (x : FlowState) (debt : Int) (count blocks : Nat) : State :=
  let fl := flowAt x 6 ((List.range blocks).map fun k => .held (block (BitVec.ofNat 16 (100 + k))))
  (unitOf { fl with record := { fl.record with group := some 0 } }).setGroup 0
    { Group.reset with state := .running, target := 2, hysteresis := 0, interval := 4, debt := debt, count := count }

/-- Reference boundaries: below the interval, a measurement that reaches the debt of 8, one that would pass it, and a
reference that plays no more. -/
theorem witness_reference :
    (((grouped .playing 7 2 3).referenceBoundary 0 0).group 0).count = 3 ∧
      (((grouped .playing 7 3 3).referenceBoundary 0 0).group 0).debt = 8 ∧
      (((grouped .playing 8 3 3).referenceBoundary 0 0).group 0).state = .forming ∧
      (((grouped .playing (-8) 3 1).referenceBoundary 0 0).flow 0).rt.state = .idle ∧
      (((grouped .cut 7 3 0).referenceBoundary 0 0).group 0).debt = 7 := by decide +kernel

/-- Joins of no, one and two READY members of group 0: every one of them plays afterwards. -/
theorem witness_joins :
    let member := flowAt .ready 0 [.held (block 100), .held (block 101)]
    let fl := { member with record := { member.record with group := some 0 } }
    let u := grouped .playing 0 0 2
    u.joinAll 0 101 = u ∧ (u.setFlow 1 fl).joinAll 0 101 = (u.setFlow 1 fl).join 101 1 ∧
      (((u.setFlow 1 fl).joinAll 0 101).flow 1).rt.state = .playing := by decide +kernel

/-- A READY flow to be joined: at a head it holds, at one it does not, and at one before its own. -/
theorem witness_join :
    let u := unitOf (flowAt .ready 0 [.held (block 100), .held (block 101), .empty, .held (block 103)])
    (u.flow 0).Lawful ∧ (u.flow 0).rt.state = .ready ∧ seqOffset 101 (u.flow 0).window.head = 1 ∧
      ((u.join 101 0).flow 0).rt.state = .playing ∧ ((u.join 101 0).flow 0).counter .late = 1 ∧
      ((u.join 102 0).flow 0).rt.state = .holding ∧ ((u.join 95 0).flow 0).counter .beyond = 1 ∧
      ((u.join 95 0).flow 0).window.entryAt 5 = .held (block 100) :=
  ⟨lawful_sound _ (by decide +kernel), by decide +kernel⟩

/-! ### Lane frames -/

/-- A unit with this flow 0 on lane 0, enabled, position 0 (channel 0) and position 1 (channel 1). -/
def laneUnit (fl : Flow) : State :=
  let u := unitOf fl
  u.withLane { u.lane with
    map := (u.lane.map.set 0 (.source 0 0)).set 1 (.source 0 1)
    lanes := u.lane.lanes.set 0 { enable := true, mute := false } }

/-- Lane frames in which a flow starts, goes on, conceals, waits in its group, and does not present: no boundary is due,
and the words are what Table 6-1 says. -/
theorem witness_laneFrame :
    let ready := laneUnit (flowAt .ready 0 [.held (block 100), .held (block 101)])
    let playing := laneUnit (flowAt .playing 5 [.held (block 100)])
    let holding := laneUnit (flowAt .holding 0 [.spent])
    (ready.lane.status = .present ∧ ∀ s ∈ [ready, playing, holding], ∀ f : FlowIx, (s.flow f).boundaryDue = false) ∧
      (ready.startsNow 0 = true ∧ (∀ f : FlowIx, f ≠ 0 → ready.startsNow f = false) ∧
        (∀ g : GroupIx, ready.slip g = 0) ∧ (∀ f : FlowIx, playing.startsNow f = false)) ∧
      [ready, playing, holding].map (fun s => ((after .frameSyncEdge s).flow 0).rt.readIndex) = [1, 6, 1] ∧
      [ready, playing, holding].map (fun s => (after .frameSyncEdge s).lane.words[0]) = [0x4000, 0x4000, 0] ∧
      (after .frameSyncEdge ready).lane.words[1] = 0 := by decide +kernel

/-- A RUNNING group with a debt of -1 whose flow 0 plays at read index 2, and flow 1 of the same group in state `x`. -/
def besides (x : FlowState) (e : Entry) : State :=
  let u := (grouped .playing (-1) 0 2).setRt 0 { (flowAt .playing 2 []).rt with readIndex := 2 }
  u.setFlow 1 { flowAt x 3 [e] with record := { (flowAt x 3 [e]).record with group := some 0 } }

/-- A HOLDING member, and a DRAINING flow beside a slip, advance by 1. -/
theorem witness_noSlip :
    (∀ f : FlowIx, ((besides .holding .spent).flow f).boundaryDue = false) ∧
      (∀ f : FlowIx, ((besides (.draining .playing) (.held (block 100))).flow f).boundaryDue = false) ∧
      [besides .holding .spent, besides (.draining .playing) (.held (block 100))].map (fun s =>
          (((after .frameSyncEdge s).flow 0).rt.readIndex, ((after .frameSyncEdge s).flow 1).rt.readIndex)) =
        [(3, 4), (2, 4)] := by decide +kernel

/-- A FORMING group whose one member is READY starts; with another member PRIMING it waits. -/
theorem witness_groupStart :
    let fl := flowAt .ready 0 [.held (block 100), .held (block 101)]
    let member := { fl with record := { fl.record with group := some 0 } }
    let waits := (unitOf member).setFlow 1 { member with rt := { member.rt with state := .priming } }
    ((unitOf member).group 0).state = .forming ∧ (waits.group 0).state = .forming ∧
      (∀ f : FlowIx, ((unitOf member).flow f).boundaryDue = false) ∧
      ((after .frameSyncEdge (unitOf member)).group 0).state = .running ∧
      ((after .frameSyncEdge waits).group 0).state = .forming := by decide +kernel

/-- A group's lane frames: a repeat, a drop with two frames left, no drop with one left, and no slip at a debt of 0; and the
one notice of a repeat whose SLIPS wraps. -/
theorem witness_slip :
    let at' (debt : Int) (read : Nat) : State :=
      let s := grouped .playing debt 0 2
      s.setRt 0 { (s.flow 0).rt with readIndex := read }
    ((at' (-1) 3).lane.status = .present ∧ (∀ f : FlowIx, ((at' (-1) 3).flow f).boundaryDue = false) ∧
        ((at' (-1) 3).group 0).state = .running) ∧
      [at' (-1) 3, at' 1 4, at' 1 5, at' 0 3].map (fun s => ((after .frameSyncEdge s).flow 0).rt.readIndex) =
        [3, 6, 6, 4] ∧
      [at' (-1) 3, at' 1 4, at' 1 5, at' 0 3].map (fun s => ((after .frameSyncEdge s).group 0).debt) = [0, 0, 1, 0] ∧
      (let s := at' (-1) 3
       let full := (s.setFlow 0 { s.flow 0 with counters := Vector.replicate 12 65535 }).withNotice
         { NoticeUnit.reset with mask := 0x1FF }
       (∀ x : FlowIx, full.startsNow x = false) ∧ (∀ k : GroupIx, k ≠ 0 → full.slip k = 0) ∧
         (after .frameSyncEdge full).notice.entries.map (fun e => (e.kind, e.detail)) = [(.counterWrap, 12)]) := by
  decide +kernel

/-- The fade of 4 at its first, last and next block, and its rounding toward zero on both sides. -/
theorem witness_fade :
    [1, 4, 5].map (fadeStageFor FlowRecord.default) = [4, 1, 0] ∧ (fadeSample 4 4 64).toInt = 51 ∧
      (fadeSample 4 4 (-64)).toInt = -51 ∧ (fadeSample 16 16 0x800000).toInt = -7895160 ∧
      (let fl := flowAt .holding 0 [.spent]
       { fl with rt := { fl.rt with fadeStage := 4, lastFrame := some [64, -64] } }.concealFrame = [51, -51] ∧
         { fl with rt := { fl.rt with fadeStage := 4 } }.concealFrame = [0]) := by decide +kernel

/-- The third and the fourth edge in ABSENT. -/
theorem witness_edges :
    let absent (n : Nat) := (unitOf .reset).withLane { LaneUnit.reset with run := n }
    (∀ f : FlowIx, ((absent 2).flow f).boundaryDue = false) ∧ (after .frameSyncEdge (absent 2)).lane.run = 3 ∧
      (after .frameSyncEdge (absent 3)).lane.status = .present := by decide +kernel

/-- The first bit, the last bit of a lane frame, and the bits after it, with the lane clock PRESENT and lost. -/
theorem witness_bitClock :
    let u := (unitOf .reset).withLane { (unitOf .reset).lane with words := Vector.replicate 64 0x80000001 }
    let at' (x : ClockStatus) (n : Nat) := u.withLane { u.lane with status := x, bitPos := n }
    [0, 1, 511, 512].map (fun n => (after .laneBitClock (at' .present n)).lane.out[3]) = [true, false, true, false] ∧
      [0, 1, 511, 512].map (fun n => (after .laneBitClock (at' .absent n)).lane.out[3]) = [true, false, true, false] ∧
      (after .laneBitClock (after .frameSyncEdge (at' .absent 3))).lane.out[3] = false ∧
      (after .laneBitClock (at' .present 512)).lane.bitPos = 512 := by decide +kernel

/-! ### Ticks -/

/-- The running unit's tick brings no timer but its notice's to its end. -/
theorem witness_tick : running.falling = [] := by decide +kernel

/-- A flow's silence timer one short of its late threshold, and one short of its cut threshold. -/
theorem witness_thresholds :
    let fl := flowAt .playing 3 [.held (block 100)]
    let at' (n : Nat) : State :=
      unitOf { fl with record := { fl.record with late := 20 }, rt := { fl.rt with silence := some n } }
    (at' 19).falling = [.late 0] ∧ (at' 99).falling = [.cut 0] ∧ ((at' 19).flow 0).record.late < 100 ∧
      ((after (.lateThreshold 0) (at' 19)).flow 0).rt.late = true ∧
      ((after (.cutThreshold 0) (at' 99)).flow 0).rt.state = .cut ∧ after (.lateThreshold 0) (at' 18) = at' 18 ∧
      after (.cutThreshold 0) (at' 98) = at' 98 := by decide +kernel

/-- A flow that drains for a FLOW_DISABLE in execution, in a mode, at a read index of a block of 6, its drain timer and the
gap timer. -/
def draining (m : DrainMode) (read drain gap : Nat) : State :=
  let fl := flowAt (.draining m) read (match m with | .playing => [.held (block 100)] | .holding => [.spent])
  let u := turn (unitOf { fl with rt := { fl.rt with drain := some drain } }) (cmd 0x05 [0])
  (u.withMgmt { u.mgmt with deferred := some 0 }).withLane { u.lane with gap := gap }

/-- The three ends of a drain. -/
theorem witness_drain :
    (draining .playing 6 10 0).ReferencesLawful ∧
      ((draining .playing 6 10 0).flow 0).rt.state = .draining .playing ∧
      ((draining .playing 6 10 0).flow 0).rt.blockLen = some ((draining .playing 6 10 0).flow 0).rt.readIndex ∧
      (draining .playing 6 10 0).mgmt.deferred = some 0 ∧
      (draining .playing 6 10 0).mgmt.queue.head? = some (cmd 0x05 [0]) ∧
      (draining .holding 3 49 0).falling = [.deadline 0] ∧ (draining .holding 3 10 1).falling = [.gap] ∧
      (∀ x : FlowIx, x ≠ 0 → ((draining .holding 3 10 1).flow x).rt.state.isDraining = false) ∧
      [after (.blockBoundary 0) (draining .playing 6 10 0), after (.drainDeadline 0) (draining .holding 3 49 0),
        after .laneClockGap (draining .holding 3 10 1)].map (fun s =>
          ((s.flow 0).rt.state, s.ring.answers.map (fun a => (a.status, a.detail)))) =
        [(.disabled, [(.done, 0)]), (.disabled, [(.done, 1)]), (.disabled, [(.done, 0)])] :=
  ⟨by unfold State.ReferencesLawful; decide +kernel, by decide +kernel⟩

/-- The law of a drain holds of a unit that drains. -/
theorem witness_drainLaw : (draining .playing 6 10 0).DrainLawful := by
  refine ⟨by decide +kernel, fun f h => ⟨rfl, cmd 0x05 [0], rfl, rfl, rfl, ?_⟩⟩
  have : f = 0 := (Option.some.inj h).symm
  subst this; decide

/-- A lease with 1 ms left, and one with 2. -/
theorem witness_lease :
    let at' (n : Nat) : State :=
      (unitOf .reset).withMgmt { Mgmt.reset with claim := { holder := some 9, lease := n, length := 10 } }
    (at' 1).falling = [.lease] ∧ (after .leaseExpiry (at' 1)).mgmt.claim.holder = none ∧
      (after .tick (at' 2)).mgmt.claim.lease = 1 ∧ after .leaseExpiry (at' 2) = at' 2 := by decide +kernel

/-- A gap timer at 1 in PRESENT and in ABSENT. -/
theorem witness_gap :
    let at' (x : ClockStatus) (n : Nat) := (unitOf .reset).withLane { LaneUnit.reset with status := x, gap := n, run := 2 }
    (at' .present 1).falling = [.gap] ∧ (at' .absent 1).falling = [.gap] ∧
      (∀ f : FlowIx, ((at' .present 1).flow f).rt.state.isDraining = false) ∧
      (after .laneClockGap (at' .present 1)).lane.status = .absent ∧
      (after .laneClockGap (at' .absent 1)).lane.run = 0 ∧ after .laneClockGap (at' .present 0) = at' .present 0 := by
  decide +kernel

/-! ### Notices -/

/-- An entry of a number, kind and condition. -/
def entry (number : Byte) (k : NoticeKind) (x : NoticeCondition) (sends : Nat) : NoticeEntry :=
  { number := number, kind := k, subject := .none, detail := 0, repeats := 0, condition := x, sendCount := sends
    fixedDest := none }

/-- A unit with these entries in its notice list. -/
def noticing (es : List NoticeEntry) (own : Addr) (offer : Option Offer) : State :=
  let u := (unitOf .reset).withRing { (unitOf .reset).ring with own := own }
  u.withNotice { NoticeUnit.reset with mask := 0x1FF, entries := es, offer := offer, nextNumber := 40 }

/-- A SENT entry whose interval ends at the next tick: sent again at a send count of 2, given up at 3, blocked by another
entry's frame on offer and while the unit is unassigned. -/
theorem witness_dueNotice :
    let e (n : Nat) := entry 4 .ringIn (.sent 19 20) n
    let o : Offer := ⟨9, 7, .poolLow, .none, 0, 0⟩
    (noticing [entry 3 .poolLow (.sent 17 20) 1, e 2] 5 none).falling = [] ∧
      (noticing [e 2] 5 none).noticeFalls 4 = true ∧ (noticing [e 2] 5 none).noticeFalls 5 = false ∧
      (after (.noticeDue 4) (noticing [e 2] 5 none)).notice.entries = [entry 4 .ringIn (.sent 0 20) 3] ∧
      (after (.noticeDue 4) (noticing [e 3] 5 none)).notice.lost = 1 ∧
      (after (.noticeDue 4) (noticing [e 2] 5 (some o))).notice.entries = [entry 4 .ringIn (.sent 20 20) 2] ∧
      (after (.noticeDue 4) (noticing [e 2] 63 none)).notice.entries = [entry 4 .ringIn (.sent 20 20) 2] := by
  decide +kernel

/-- Three due entries: the first is given up with its frame on offer, so that the second goes and the third stays due; with
another frame on offer the first that may be chosen is the one whose frame it is. -/
theorem witness_severalDue :
    let e (number : Nat) (k : NoticeKind) (sends : Nat) := entry (BitVec.ofNat 8 number) k (.sent 19 20) sends
    let es := [e 1 .ringIn 3, e 2 .poolLow 1, e 3 .laneClock 1]
    let o (number : Byte) : Offer := ⟨9, number, .ringIn, .none, 0, 0⟩
    (noticing es 5 none).falling = [] ∧
      (after .tick (noticing es 5 (some (o 1)))).notice.entries =
        [entry 2 .poolLow (.sent 0 20) 2, entry 3 .laneClock (.sent 20 20) 1] ∧
      (after .tick (noticing es 5 (some (o 3)))).notice.entries =
        [entry 2 .poolLow (.sent 20 20) 1, entry 3 .laneClock (.sent 0 20) 2] ∧
      (after .tick (noticing es 5 (some (o 9)))).notice.entries =
        [entry 2 .poolLow (.sent 20 20) 1, entry 3 .laneClock (.sent 20 20) 1] ∧
      (after .tick (noticing es 63 none)).notice.lost = 1 := by decide +kernel

/-- PENDING entries: the first waits for a SENT one of its kind, the second goes, and alone the first does not; with 4 SENT,
none does. -/
theorem witness_pendingNotice :
    let sent (n : Nat) := entry (BitVec.ofNat 8 n) .ringIn (.sent 3 20) 1
    let two := [sent 1, entry 2 .ringIn .pending 0, entry 3 .poolLow .pending 0]
    (noticing two 5 none).falling = [] ∧ (∀ x ∈ (noticing two 5 none).notice.staying, x.isDue = false) ∧
      (after .tick (noticing (two.take 2) 5 none)).notice.offer = none ∧
      (after .tick (noticing two 5 none)).notice.entries =
        [entry 1 .ringIn (.sent 4 20) 1, entry 2 .ringIn .pending 0, entry 3 .poolLow (.sent 0 20) 1] ∧
      (after .tick (noticing ((List.range 4).map sent ++ [entry 9 .poolLow .pending 0]) 5 none)).notice.offer = none ∧
      (after .tick (noticing [entry 9 .poolLow .pending 0] 63 none)).notice.offer = none := by decide +kernel

/-- A notice list of 16 entries about 16 flows, and an OVERFLOW entry if asked for. -/
def fullList (overflow : List NoticeEntry) : NoticeUnit :=
  { NoticeUnit.reset with
    mask := 0x1FF
    nextNumber := 255
    entries := (allFlows.take 16).map (fun f =>
      { entry (BitVec.ofNat 8 f.val) .flowLate .pending 0 with subject := .flow f }) ++ overflow }

/-- Of flow subjects, at most one entry of the full list is about one of them. -/
theorem fullList_lawful : (fullList []).Lawful ∧ (fullList []).NumbersDistinct := by
  have hk : ∀ e ∈ (fullList []).entries, e.kind = .flowLate ∧ e.isSent = false := by decide +kernel
  have one : ∀ f : FlowIx, ((fullList []).entries.filter (fun e => decide (e.subject = .flow f))).length ≤ 1 := by
    decide +kernel
  have none' : ∀ e ∈ (fullList []).entries, ∃ f : FlowIx, e.subject = .flow f := by decide +kernel
  refine ⟨⟨by decide +kernel, by decide +kernel, fun k x => ⟨?_, ?_⟩⟩, by unfold NoticeUnit.NumbersDistinct; decide +kernel⟩
  · cases x with
    | flow f =>
      refine le_trans (List.Sublist.length_le (List.monotone_filter_right _ fun e h => ?_)) (one f)
      simp only [NoticeEntry.pendingOf, Bool.and_eq_true, decide_eq_true_eq] at h ⊢
      exact h.1.2
    | none =>
      refine le_trans (le_of_eq (List.length_eq_zero_iff.2 (List.filter_eq_nil_iff.2 fun e he h => ?_))) (Nat.zero_le 1)
      obtain ⟨f, hf⟩ := none' e he
      simp [NoticeEntry.pendingOf, hf] at h
    | group g =>
      refine le_trans (le_of_eq (List.length_eq_zero_iff.2 (List.filter_eq_nil_iff.2 fun e he h => ?_))) (Nat.zero_le 1)
      obtain ⟨f, hf⟩ := none' e he
      simp [NoticeEntry.pendingOf, hf] at h
  · refine le_trans (le_of_eq (List.length_eq_zero_iff.2 (List.filter_eq_nil_iff.2 fun e he h => ?_))) (Nat.zero_le 1)
    simp [(hk e he).2] at h

/-- Raises at a full list: masked off, coalesced, lost with a new OVERFLOW entry, lost into a PENDING one and beside a SENT
one; and appended to an empty list, with its number after 255. -/
theorem witness_raise :
    let r : Raise := { kind := .flowLate, subject := .flow 3, detail := 1, dest := none }
    let x : Raise := { kind := .ringIn, subject := .none, detail := 1, dest := none }
    ((fullList []).Lawful ∧ (fullList []).NumbersDistinct) ∧
      ({ fullList [] with mask := 0 }.take r).entries = (fullList []).entries ∧
      (((fullList []).take r).entries.map NoticeEntry.repeats).getD 3 0 = 1 ∧
      ((fullList []).take x).overflow = true ∧ ((fullList []).take x).entries.length = 17 ∧
      ((fullList [entry 99 .overflow .pending 0]).take x).entries.length = 17 ∧
      (((fullList [entry 99 .overflow .pending 0]).take x).entries.map NoticeEntry.repeats).getD 16 0 = 1 ∧
      (((fullList [entry 99 .overflow (.sent 0 20) 1]).take x).entries.map NoticeEntry.repeats).getD 16 0 = 0 ∧
      ({ fullList [] with entries := [] }.take x).nextNumber = 0 := ⟨fullList_lawful, by decide +kernel⟩

/-- An acknowledgement of a SENT entry, of a PENDING one, and of the OVERFLOW entry; an address change that merges one
entry and returns another. -/
theorem witness_acknowledge :
    let n := (noticing [entry 1 .ringIn (.sent 3 20) 1, entry 2 .ringIn .pending 0, entry 3 .poolLow (.sent 3 20) 2,
      entry 4 .overflow (.sent 1 20) 1] 5 none).notice
    let m := { n with overflow := true }
    (n.Lawful ∧ n.NumbersDistinct) ∧ (m.acknowledge 4).overflow = false ∧ (m.acknowledge 1).entries.length = 3 ∧
      (m.acknowledge 2).acksIgnored = 1 ∧ (m.acknowledge 9).acksIgnored = 1 ∧
      n.addressChanged.entries = [{ entry 2 .ringIn .pending 0 with repeats := 1 }, entry 3 .poolLow .pending 2,
        entry 4 .overflow .pending 1] := by
  refine ⟨⟨⟨by decide +kernel, by decide +kernel, fun k x => ?_⟩, by unfold NoticeUnit.NumbersDistinct; decide +kernel⟩,
    by decide +kernel⟩
  by_cases hx : x = .none
  · subst hx; cases k <;> decide +kernel
  · have h : ∀ e ∈ (noticing [entry 1 .ringIn (.sent 3 20) 1, entry 2 .ringIn .pending 0, entry 3 .poolLow (.sent 3 20) 2,
        entry 4 .overflow (.sent 1 20) 1] 5 none).notice.entries, e.subject = .none := by decide +kernel
    have ne : ∀ e : NoticeEntry, e.subject = .none → decide (e.subject = x) = false := fun e he => by
      rw [he]; exact decide_eq_false fun h => hx h.symm
    constructor <;> refine le_trans (le_of_eq (List.length_eq_zero_iff.2 (List.filter_eq_nil_iff.2 fun e he => ?_)))
      (Nat.zero_le 1) <;> simp [NoticeEntry.pendingOf, ne e (h e he)]

/-! ### Executions -/

/-- A flow in use and the group it belongs to, for the read commands. -/
def readable : State := grouped .playing 7 3 3

/-- The data an execution answers with. -/
def dataOf (s : State) (i : Instr) (code : Byte) (params : List Byte) : List Byte :=
  ((after i (turn s (cmd code params))).ring.answers.getLast?.map fun a => a.data).getD []

/-- The common checks at their ends: codes 0 and 12h, a length off by one, another holder and none; and a command that is
not the row's, none, and a drain in progress, which leave all as it is. -/
theorem witness_commonChecks :
    (Ready readable 0x12 [] ∧ Ready readable 0 [] ∧ Ready readable 0x04 [0, 0]) ∧
      answerOf readable .unknownCommand 0x12 [] = some (.unknownCommand, 0) ∧
      answerOf readable .unknownCommand 0 [] = some (.unknownCommand, 0) ∧
      answerOf readable .unknownCommand 0x11 [] = none ∧
      answerOf readable .flowEnable 0x04 [0, 0] = some (.invalidField, 0) ∧
      [none, some 10].map (fun h => (after .flowEnable ((turn readable (cmd 0x04 [0])).withMgmt
        { (turn readable (cmd 0x04 [0])).mgmt with claim := { holder := h, lease := 5, length := 10 } })).ring.answers.map
          fun a => (a.status, a.detail)) = [[(.notHolder, 63)], [(.notHolder, 10)]] ∧
      after .flowEnable (turn readable (cmd 0x05 [0])) = turn readable (cmd 0x05 [0]) ∧
      after .flowEnable readable = readable ∧
      after .unknownCommand (turn readable (cmd 0x04 [0])) = turn readable (cmd 0x04 [0]) ∧
      after .unitResetPlayout (turn readable (cmd 0x0E [2])) = turn readable (cmd 0x0E [2]) ∧
      answerOf readable .unitResetPlayout 0x0E [2, 0] = some (.invalidField, 0) ∧
      after .statusGet (draining .playing 3 10 0) = draining .playing 3 10 0 :=
  ⟨⟨ready _ _ _, ready _ _ _, ready _ _ _⟩, by decide +kernel⟩

/-- The read commands: 43 bytes that begin with the own address; a flow's record and state; a group's fields; a lane's
settings; and an index past each range. -/
theorem witness_reads :
    (Ready readable 0x01 [] ∧ Ready readable 0x03 [47] ∧ Ready readable 0x08 [7] ∧ Ready readable 0x0A [3]) ∧
      (dataOf readable .statusGet 0x01 []).length = 43 ∧ byteAt (dataOf readable .statusGet 0x01 []) 0 = 5 ∧
      dataOf readable .flowGet 0x03 [0] =
        [0, 7, 1, 1, 8, 2, 8, 4, 0, 0, 0, 0, 0, 100, 0, 0, 0, 0, 4, 0, 100, 3, 3, 6, 0, 0, 0] ∧
      dataOf readable .groupGet 0x08 [0] = [1, 255, 2, 0, 4, 7, 3, 0, 0, 1, 0] ∧
      [0, 1, 47].map (fun p => (dataOf (readable.setGroup 0 { readable.group 0 with pilot := some p }) .groupGet 0x08
        [0]).getD 8 9) = [0, 0, 0] ∧
      (dataOf (grouped .ready 7 3 3) .groupGet 0x08 [0]).getD 8 9 = 255 ∧
      (dataOf (laneUnit .reset) .mapGet 0x0A [0]).take 8 = [1, 0, 1, 0, 0, 1, 0, 1] ∧
      answerOf readable .flowGet 0x03 [48] = some (.badIndex, 0) ∧
      answerOf readable .groupGet 0x08 [8] = some (.badIndex, 0) ∧
      answerOf readable .mapGet 0x0A [4] = some (.badIndex, 0) :=
  ⟨⟨ready _ _ _, ready _ _ _, ready _ _ _, ready _ _ _⟩, by decide +kernel⟩

/-- LANE_SET and MAP_SET at the end of each range. -/
theorem witness_mapAndLane :
    (Ready readable 0x0B [3, 1, 1] ∧ Ready readable 0x09 [3, 15, 1, 47, 7]) ∧
      [[4, 0, 0], [3, 2, 0], [3, 1, 2], [3, 1, 1]].map (answerOf readable .laneSet 0x0B) =
        [some (.badIndex, 0), some (.invalidField, 1), some (.invalidField, 2), some (.done, 0)] ∧
      [[4, 0, 0, 0, 0], [3, 16, 0, 0, 0], [3, 15, 2, 0, 0], [3, 15, 1, 48, 8], [3, 15, 1, 47, 8], [3, 15, 0, 48, 8],
          [3, 15, 1, 47, 7]].map (answerOf readable .mapSet 0x09) =
        [some (.badIndex, 0), some (.badIndex, 0), some (.invalidField, 1), some (.invalidField, 2),
          some (.invalidField, 3), some (.done, 0), some (.done, 0)] ∧
      (after .mapSet (turn readable (cmd 0x09 [3, 15, 1, 47, 7]))).lane.map[63] = .source 47 7 :=
  ⟨⟨ready _ _ _, ready _ _ _⟩, by decide +kernel⟩

/-- GROUP_SET at the end of each range. -/
theorem witness_groupSet :
    Ready readable 0x07 [7, 255, 32, 8, 64] ∧
      [[8, 48, 0, 9, 0], [7, 48, 0, 9, 0], [7, 254, 1, 0, 1], [7, 47, 0, 9, 0], [7, 47, 33, 0, 1], [7, 255, 1, 9, 0],
          [7, 255, 32, 8, 0], [7, 255, 32, 8, 65], [7, 47, 1, 0, 1], [7, 255, 32, 8, 64]].map
          (answerOf readable .groupSet 0x07) =
        [some (.badIndex, 0), some (.invalidField, 1), some (.invalidField, 1), some (.invalidField, 2),
          some (.invalidField, 2), some (.invalidField, 3), some (.invalidField, 4), some (.invalidField, 4),
          some (.done, 0), some (.done, 0)] :=
  ⟨ready _ _ _, by decide +kernel⟩

/-- A FLOW_SET for flow 47 with this mode, depth, prime depth, hold limit and fade length. -/
def record (mode depth prime limit fade : Byte) : List Byte :=
  [47, 0, 9, 8, mode, depth, prime, limit, fade, 1, 1, 0, 20, 0, 21, 1, 1, 7, 0]

/-- FLOW_SET at the end of each range and where two fields conflict, each refusal naming the lowest field; and a flow that
is not DISABLED. -/
theorem witness_flowSet :
    Ready readable 0x02 (record 2 32 32 64 16) ∧
      [record 2 32 32 64 16, record 3 33 0 65 17, record 2 33 0 65 17, record 2 1 1 1 0, record 2 2 3 65 17,
          record 2 2 2 65 17, record 2 2 2 3 4, record 2 2 2 64 17, (record 2 2 1 1 0).set 9 2, (record 2 2 1 1 0).set 10 2,
          (record 2 2 1 1 0).set 14 20, (record 2 2 1 1 0).set 15 2, (record 2 2 1 1 0).set 16 2,
          (record 2 2 1 1 0).set 17 8, (record 2 2 1 1 0).set 3 9, (record 2 2 1 1 0).set 0 48,
          (record 2 2 1 1 0).set 0 0].map (answerOf readable .flowSet 0x02) =
        [some (.done, 0), some (.invalidField, 3), some (.invalidField, 4), some (.invalidField, 4),
          some (.invalidField, 5), some (.invalidField, 6), some (.invalidField, 7), some (.invalidField, 7),
          some (.invalidField, 8), some (.invalidField, 9), some (.invalidField, 11), some (.invalidField, 12),
          some (.invalidField, 13), some (.invalidField, 14), some (.invalidField, 2), some (.badIndex, 0),
          some (.badState, 4)] :=
  ⟨ready _ _ _, by decide +kernel⟩

/-- A lawful record at the top of its ranges. -/
theorem witness_record :
    let r : FlowRecord := { FlowRecord.default with
      channels := 8, depth := 32, prime := 32, holdLimit := 64, fade := 16, late := 65534, cut := 65535 }
    (1 ≤ r.channels ∧ r.channels ≤ 8 ∧ 2 ≤ r.depth ∧ r.depth ≤ 32 ∧ 1 ≤ r.prime ∧ r.prime ≤ r.depth ∧ 1 ≤ r.holdLimit ∧
      r.holdLimit ≤ 64 ∧ r.fade ≤ 16 ∧ r.fade ≤ r.holdLimit ∧ r.late ≤ 65535 ∧ 1 ≤ r.cut ∧ r.cut ≤ 65535 ∧
      (r.late = 0 ∨ r.late < r.cut)) ∧ parseRecord (recordBytes r) = r := by decide +kernel

/-- A unit whose flow 1 is DISABLED with this tag, mode and group, flow 0 playing with tag 7 in group 0. -/
def enabling (tag : Half) (mode : BlockMode) (group : Option GroupIx) (free : Nat) : State :=
  let s := (readable.setFlow 1 { Flow.reset with record := { FlowRecord.default with tag := tag, mode := mode, group := group } })
  s.withPool { s.pool with free := free }

/-- FLOW_ENABLE: each check where it fails alone, and the reservation at its size. -/
theorem witness_flowEnable :
    Ready (enabling 8 .fixedHalf none 381) 0x04 [1] ∧
      [answerOf readable .flowEnable 0x04 [48], answerOf readable .flowEnable 0x04 [0],
          answerOf (enabling 0 .fixedHalf none 381) .flowEnable 0x04 [1],
          answerOf (enabling 7 .fixedHalf none 381) .flowEnable 0x04 [1],
          answerOf (enabling 8 .perFrame (some 1) 381) .flowEnable 0x04 [1],
          answerOf (enabling 8 .fixedFull (some 0) 381) .flowEnable 0x04 [1],
          answerOf (enabling 8 .fixedHalf (some 0) 2) .flowEnable 0x04 [1],
          answerOf (enabling 8 .fixedHalf (some 0) 3) .flowEnable 0x04 [1],
          answerOf (enabling 8 .perFrame none 3) .flowEnable 0x04 [1]] =
        [some (.badIndex, 0), some (.badState, 4), some (.invalidField, 1), some (.tagInUse, 0),
          some (.groupMismatch, 255), some (.groupMismatch, 0), some (.noReservation, 2), some (.done, 0),
          some (.done, 0)] :=
  ⟨ready _ _ _, by decide +kernel⟩

/-- FLOW_DISABLE and FLOW_RESTART: of a DISABLED flow, of one that plays with the lane clock PRESENT and ABSENT, of one that
holds. -/
theorem witness_disableAndRestart :
    (Ready readable 0x05 [0] ∧ Ready readable 0x06 [0]) ∧
      answerOf readable .flowDisable 0x05 [48] = some (.badIndex, 0) ∧
      answerOf readable .flowDisable 0x05 [1] = some (.done, 0) ∧
      ((after .flowDisable (turn readable (cmd 0x05 [0]))).flow 0).rt.state = .draining .playing ∧
      (after .flowDisable (turn readable (cmd 0x05 [0]))).mgmt.deferred = some 0 ∧
      ((after .flowDisable (turn (unitOf (flowAt .holding 3 [.spent])) (cmd 0x05 [0]))).flow 0).rt.state =
        .draining .holding ∧
      ((after .flowDisable (turn (readable.withLane LaneUnit.reset) (cmd 0x05 [0]))).flow 0).rt.state = .disabled ∧
      ((after .flowDisable (turn (readable.withLane LaneUnit.reset) (cmd 0x05 [0]))).group 0).state = .forming ∧
      answerOf readable .flowRestart 0x06 [48] = some (.badIndex, 0) ∧
      answerOf readable .flowRestart 0x06 [1] = some (.badState, 0) ∧
      ((after .flowRestart (turn readable (cmd 0x06 [0]))).flow 0).rt.state = .idle :=
  ⟨⟨ready _ _ _, ready _ _ _⟩, by decide +kernel⟩

/-- COUNTERS_GET with a bad clear byte, past the flows, and clearing. -/
theorem witness_countersGet :
    let s := readable.setFlow 0 ((readable.flow 0).bump .slips)
    Ready s 0x0C [0, 1] ∧ answerOf s .countersGet 0x0C [48, 2] = some (.invalidField, 1) ∧
      answerOf s .countersGet 0x0C [48, 1] = some (.badIndex, 0) ∧
      (dataOf s .countersGet 0x0C [0, 1]).drop 22 = [0, 1] ∧
      ((after .countersGet (turn s (cmd 0x0C [0, 1]))).flow 0).counter .slips = 0 ∧
      ((after .countersGet (turn s (cmd 0x0C [0, 0]))).flow 0).counter .slips = 1 :=
  ⟨ready _ _ _, by decide +kernel⟩

/-- UNIT_SET at the end of each range; a threshold at the free count of 381 and one above it. -/
theorem witness_unitSet :
    Ready readable 0x0D [1, 255, 3, 232, 1, 128] ∧
      [[2, 0, 0, 4, 1, 129], [1, 255, 0, 4, 1, 129], [1, 255, 3, 233, 0, 0], [1, 255, 0, 5, 1, 129],
          [1, 255, 3, 232, 1, 128]].map (answerOf readable .unitSet 0x0D) =
        [some (.invalidField, 1), some (.invalidField, 2), some (.invalidField, 2), some (.invalidField, 3),
          some (.done, 0)] ∧
      [[1, 255, 0, 5, 0, 0], [1, 255, 0, 5, 1, 125], [1, 255, 0, 5, 1, 126]].map (fun p =>
          ((after .unitSet (turn readable (cmd 0x0D p))).pool.armed,
            (after .unitSet (turn readable (cmd 0x0D p))).notice.entries.length)) =
        [(true, 0), (true, 0), (false, 1)] :=
  ⟨ready _ _ _, by decide +kernel⟩

/-- UNIT_RESET with each scope, in the running unit, and with an unknown one. -/
theorem witness_unitReset :
    (Ready running 0x0E [0] ∧ Ready running 0x0E [1] ∧ Ready running 0x0E [2] ∧ Ready running 0x0E [3]) ∧
      (∀ f : FlowIx, (running.flow f).rt.state.isDraining = false) ∧
      [answerOf running .unitResetCounters 0x0E [3], answerOf running .unitResetPlayout 0x0E [3],
          answerOf running .unitResetConfig 0x0E [3]] =
        [some (.invalidField, 1), some (.invalidField, 1), some (.invalidField, 1)] ∧
      ((after .unitResetCounters (turn running (cmd 0x0E [0]))).flow 0).rt.state = .playing ∧
      ((after .unitResetPlayout (turn running (cmd 0x0E [1]))).flow 0).rt.state = .idle ∧
      (after .unitResetPlayout (turn running (cmd 0x0E [1]))).pool.free = 384 ∧
      ((after .unitResetConfig (turn running (cmd 0x0E [2]))).flow 0).record = FlowRecord.default ∧
      (after .unitResetConfig (turn running (cmd 0x0E [2]))).mgmt.cache.length = 1 :=
  ⟨⟨ready _ _ _, ready _ _ _, ready _ _ _, ready _ _ _⟩, by decide +kernel⟩

/-- CLAIM at the ends of the lease, beside another holder, and RELEASE by the holder, another and with none. -/
theorem witness_claim :
    let other (h : Option Addr) (c : QueuedCommand) : State :=
      (turn readable c).withMgmt { (turn readable c).mgmt with claim := { holder := h, lease := 5, length := 10 } }
    (Ready readable 0x0F [234, 96] ∧ Ready readable 0x10 []) ∧
      [[0, 0], [0, 1], [234, 96], [234, 97]].map (answerOf readable .claim 0x0F) =
        [some (.invalidField, 1), some (.done, 0), some (.done, 0), some (.invalidField, 1)] ∧
      [some 10, none].map (fun h => ((after .claim (other h (cmd 0x0F [0, 1]))).mgmt.claim.holder)) = [some 10, some 9] ∧
      answerOf readable .release 0x10 [] = some (.done, 0) ∧
      [some 10, none].map (fun h => (after .release (other h (cmd 0x10 []))).ring.answers.map
        fun a => (a.status, a.detail)) = [[(.notHolder, 10)], [(.notHolder, 63)]] :=
  ⟨⟨ready _ _ _, ready _ _ _⟩, by decide +kernel⟩

end Sys2Proof.Tests
end

section
/-! What an execution leaves for its own checks: the flow a command is addressed to, and the reload of the lease,
which touches no flow and no buffer (R136, R139, R141). -/

namespace Sys2Proof.Machine

/-! ### Bytes that name something (R173) -/

theorem byteFlow_eq_some {b : Byte} {f : FlowIx} (h : b.toNat = f.val) : byteFlow b = some f := by
  simp [byteFlow, h]

theorem byteFlow_eq_none {b : Byte} (h : 48 ≤ b.toNat) : byteFlow b = none := by
  simp [byteFlow, h]

theorem byteGroup_eq_some_iff (b : Byte) (g : GroupIx) : byteGroup b = some g ↔ b.toNat = g.val := by
  unfold byteGroup
  split
  · simp [Fin.ext_iff]
  · next h => simp; omega

theorem byteGroup_eq_none_iff (b : Byte) : byteGroup b = none ↔ 8 ≤ b.toNat := by simp [byteGroup]

theorem byteMode_eq_some_iff (b : Byte) (m : BlockMode) : byteMode b = some m ↔ b = modeByte m := by
  unfold byteMode
  split_ifs with h0 h1 h2
  · subst h0; cases m <;> decide
  · subst h1; cases m <;> decide
  · subst h2; cases m <;> decide
  · cases m
    · simpa [modeByte] using h0
    · simpa [modeByte] using h1
    · simpa [modeByte] using h2

theorem byteMode_isSome (b : Byte) : (byteMode b).isSome = decide (b.toNat ≤ 2) := by
  rw [Bool.eq_iff_iff, decide_eq_true_iff]
  constructor
  · intro h
    obtain ⟨m, hm⟩ := Option.isSome_iff_exists.1 h
    rw [(byteMode_eq_some_iff b m).1 hm]
    cases m <;> decide
  · intro h
    have hb : b = 0 ∨ b = 1 ∨ b = 2 := by bv_omega
    obtain rfl | rfl | rfl := hb <;> rfl

/-! ### Answers -/

theorem State.refuse_eq (s : State) (c : QueuedCommand) (status : Status) (detail : Byte) :
    s.refuse c status detail = s.answered c status detail [] := rfl

theorem State.succeed_eq (s : State) (c : QueuedCommand) : s.succeed c = s.answered c .done 0 [] := rfl

/-! ### The flow a command is addressed to -/

theorem State.withFlow_flow (s : State) {c : QueuedCommand} (own : FlowIx → State) {f : FlowIx}
    (h : (byteAt c.params 0).toNat = f.val) : s.withFlow c own = own f := by
  simp [State.withFlow, QueuedCommand.param, byteFlow_eq_some h]

theorem State.withFlow_badIndex (s : State) {c : QueuedCommand} (own : FlowIx → State)
    (h : 48 ≤ (byteAt c.params 0).toNat) : s.withFlow c own = s.answered c .badIndex 0 [] := by
  simp [State.withFlow, QueuedCommand.param, byteFlow_eq_none h, State.refuse_eq]

/-! ### The reload of the lease -/

@[simp] theorem State.flow_reloaded (s : State) (c : QueuedCommand) (f : FlowIx) :
    (s.reloaded c).flow f = s.flow f := by unfold State.reloaded; split <;> rfl

@[simp] theorem State.sharedFree_reloaded (s : State) (c : QueuedCommand) :
    (s.reloaded c).sharedFree = s.sharedFree := by unfold State.reloaded; split <;> rfl

/-- An execution that passes the common checks goes on to the command's own (R135). -/
theorem State.execute_passes (s : State) {code : Byte} {length : Nat} (needsClaim : Bool)
    (own : QueuedCommand → State → State) {c : QueuedCommand} (h : s.inTurn c) (hc : c.code = code)
    (hl : c.length = length) (hh : s.mgmt.claim.holder = some c.origin) :
    s.execute (hasCode code) length needsClaim own = own c (s.reloaded c) := by
  rw [State.execute_eq s _ _ _ _ h (by simp [hasCode, hc])]
  simp [hl, hh]

end Sys2Proof.Machine
end

section
/-! FLOW_SET (R7): the checks of a record in the order of the identifiers, and what is stored. -/

namespace Sys2Proof.Machine

/-! ### The checks of a record -/

/-- Field `id` of the 18 bytes of a record is in range and in no conflict with an earlier one (Table 1-1, R7). -/
def RecordFieldOk (r : List Byte) (id : Nat) : Prop :=
  let b (i : Nat) := (byteAt r i).toNat
  let h (i : Nat) := (halfAt r i).toNat
  (id = 2 → 1 ≤ b 2 ∧ b 2 ≤ 8) ∧ (id = 3 → b 3 ≤ 2) ∧ (id = 4 → 2 ≤ b 4 ∧ b 4 ≤ 32) ∧
  (id = 5 → 1 ≤ b 5 ∧ b 5 ≤ b 4) ∧ (id = 6 → 1 ≤ b 6 ∧ b 6 ≤ 64) ∧ (id = 7 → b 7 ≤ 16 ∧ b 7 ≤ b 6) ∧
  (id = 8 → b 8 ≤ 1) ∧ (id = 9 → b 9 ≤ 1) ∧ (id = 11 → 1 ≤ h 12 ∧ (h 10 = 0 ∨ h 10 < h 12)) ∧
  (id = 12 → b 14 ≤ 1) ∧ (id = 13 → b 15 ≤ 1) ∧ (id = 14 → b 16 ≤ 7 ∨ b 16 = 255)

theorem firstFailing_map (ok : Nat → Bool) (ids : List Nat) :
    firstFailing (ids.map fun id => (id, ok id)) = ids.find? fun id => !ok id := by
  induction ids with
  | nil => rfl
  | cons id ids ih => cases h : ok id <;> simp [firstFailing, h, ih]

/-- The fault of a record is the first of the fields 1 to 14 that is not as it should be. -/
theorem recordFault_eq (r : List Byte) [DecidablePred (RecordFieldOk r)] :
    recordFault r = (List.range' 1 14).find? fun id => !decide (RecordFieldOk r id) := by
  rw [← firstFailing_map]
  simp [recordFault, RecordFieldOk, List.range'_succ, isBit, byteMode_isSome]

theorem recordFault_eq_some {r : List Byte} {id : Nat} (h1 : 1 ≤ id) (h14 : id ≤ 14) (hid : ¬ RecordFieldOk r id)
    (hlow : ∀ j, j < id → RecordFieldOk r j) : recordFault r = some id := by
  classical
  rw [recordFault_eq, List.find?_range'_eq_some]
  refine ⟨by simp [hid], List.mem_range'_1.2 (by omega), fun j _ hj => by simp [hlow j hj]⟩

theorem recordFault_eq_none {r : List Byte} (h : ∀ id, RecordFieldOk r id) : recordFault r = none := by
  classical
  rw [recordFault_eq, List.find?_range'_eq_none]
  exact fun id _ _ => by simp [h id]

/-! ### The record the bytes encode -/

theorem parseRecord_mode_iff {r : List Byte} (h : (byteAt r 3).toNat ≤ 2) (m : BlockMode) :
    (parseRecord r).mode = m ↔ (byteAt r 3).toNat = (modeByte m).toNat := by
  obtain ⟨k, hk⟩ := Option.isSome_iff_exists.1 ((byteMode_isSome _).trans (decide_eq_true h))
  rw [← BitVec.toNat_eq, ← byteMode_eq_some_iff, hk]
  simp [parseRecord, hk]

theorem parseRecord_exit_iff (r : List Byte) : (parseRecord r).exit = .reprime ↔ (byteAt r 8).toNat = 1 := by
  simp [parseRecord, BitVec.toNat_eq]

theorem parseRecord_conceal_iff (r : List Byte) : (parseRecord r).conceal = .silence ↔ (byteAt r 9).toNat = 1 := by
  simp [parseRecord, BitVec.toNat_eq]

theorem parseRecord_tap_iff (r : List Byte) : (parseRecord r).tap = .take ↔ (byteAt r 14).toNat = 1 := by
  simp [parseRecord, BitVec.toNat_eq]

theorem parseRecord_crc_iff (r : List Byte) : (parseRecord r).crc = .keep ↔ (byteAt r 15).toNat = 1 := by
  simp [parseRecord, BitVec.toNat_eq]

theorem parseRecord_group_eq_none_iff {r : List Byte} (h : (byteAt r 16).toNat ≤ 7 ∨ (byteAt r 16).toNat = 255) :
    (parseRecord r).group = none ↔ (byteAt r 16).toNat = 255 := by
  refine (byteGroup_eq_none_iff _).trans ?_
  omega

/-! ### The command -/

theorem State.setFlowRecord_badState {s : State} {f : FlowIx} (c : QueuedCommand)
    (h : (s.flow f).rt.state ≠ .disabled) :
    (s.reloaded c).setFlowRecord c f = (s.reloaded c).answered c .badState (stateCode (s.flow f).rt.state) [] := by
  simp only [State.setFlowRecord, State.flow_reloaded, if_pos h, State.refuse_eq]

theorem State.setFlowRecord_invalidField {s : State} {f : FlowIx} {c : QueuedCommand} {id : Nat}
    (h : (s.flow f).rt.state = .disabled) (hid : recordFault (c.params.drop 1) = some id) :
    (s.reloaded c).setFlowRecord c f = (s.reloaded c).answered c .invalidField (natByte id) [] := by
  simp only [State.setFlowRecord, State.flow_reloaded, if_neg (not_not.2 h), hid, State.refuse_eq]

theorem State.setFlowRecord_done {s : State} {f : FlowIx} {c : QueuedCommand}
    (h : (s.flow f).rt.state = .disabled) (hok : recordFault (c.params.drop 1) = none) :
    (s.reloaded c).setFlowRecord c f =
      ((s.reloaded c).setFlow f { s.flow f with
        record := parseRecord (c.params.drop 1), counters := Vector.replicate 12 0 }).answered c .done 0 [] := by
  simp only [State.setFlowRecord, State.flow_reloaded, if_neg (not_not.2 h), hok, State.succeed_eq, Flow.clearCounters]

theorem exec_flowSet {s : State} {c : QueuedCommand} (h : s.inTurn c) (hc : c.code = 0x02) (hl : c.length = 19)
    (hh : s.mgmt.claim.holder = some c.origin) :
    exec .flowSet s = .next ((s.reloaded c).withFlow c ((s.reloaded c).setFlowRecord c)) :=
  congrArg Host.Outcome.next (State.execute_passes s true _ h hc hl hh)

/-- Settles O51: the lowest failing field is the first failing check, and a record that passes is stored as its bytes
encode it. -/
theorem flowSetStoresWholeRecord : Obligations.FlowSetStoresWholeRecord := by
  unfold Obligations.FlowSetStoresWholeRecord
  intro s c hturn hcode hlen hholder r
  rw [exec_flowSet hturn hcode hlen hholder]
  refine ⟨fun hix => congrArg _ (State.withFlow_badIndex _ _ hix), fun f hf => ?_⟩
  rw [State.withFlow_flow _ _ hf]
  intro rec18 b h ok
  refine ⟨fun hst => ?_, fun id hst h1 h14 hid hlow => ?_, fun hst hok => ?_⟩
  · rw [State.setFlowRecord_badState c hst]
    cases (s.flow f).rt.state <;> rfl
  · exact congrArg _ (State.setFlowRecord_invalidField hst (recordFault_eq_some h1 h14 hid hlow))
  · have hmode : b 3 ≤ 2 := (hok 3).2.1 rfl
    have hgroup : b 16 ≤ 7 ∨ b 16 = 255 := by
      obtain ⟨-, -, -, -, -, -, -, -, -, -, -, h14⟩ := hok 14
      exact h14 rfl
    exact ⟨parseRecord rec18,
      ⟨rfl, rfl, parseRecord_mode_iff hmode _, parseRecord_mode_iff hmode _, parseRecord_mode_iff hmode _, rfl, rfl, rfl,
        rfl, parseRecord_exit_iff _, parseRecord_conceal_iff _, rfl, rfl, parseRecord_tap_iff _, parseRecord_crc_iff _,
        parseRecord_group_eq_none_iff hgroup, byteGroup_eq_some_iff _⟩,
      congrArg _ (State.setFlowRecord_done hst (recordFault_eq_none hok))⟩

end Sys2Proof.Machine
end

section
/-! FLOW_ENABLE (R16 to R20): the holder of a tag, the group constraint, and one rule for each check. -/

namespace Sys2Proof.Machine

/-! ### Tags and groups in use -/

theorem FlowState.matchable_iff (x : FlowState) : x.matchable = true ↔ x.enabled = true ∨ x.isDraining = true := by
  simp [FlowState.matchable]

/-- A matchable flow that holds another block mode in the group flow `f` names (R18). -/
def State.Clashes (s : State) (f x : FlowIx) : Prop :=
  ((s.flow x).rt.state.enabled = true ∨ (s.flow x).rt.state.isDraining = true) ∧
    (s.flow x).record.group = (s.flow f).record.group ∧ (s.flow x).record.mode ≠ (s.flow f).record.mode

theorem State.constrains_iff_clashes (s : State) {f : FlowIx} {g : GroupIx} (hg : (s.flow f).record.group = some g)
    (x : FlowIx) :
    (s.constrains g x && !((s.flow x).record.mode == (s.flow f).record.mode)) = true ↔ s.Clashes f x := by
  simp [State.constrains, State.Clashes, FlowState.matchable_iff, hg, and_assoc]

theorem State.holderOfTag_eq_none {s : State} {tag : Half}
    (h : ∀ x, (s.flow x).rt.state.enabled = true ∨ (s.flow x).rt.state.isDraining = true → (s.flow x).record.tag ≠ tag) :
    s.holderOfTag tag = none := by
  unfold State.holderOfTag
  split
  · rfl
  · rw [List.find?_eq_none]
    intro x _
    simpa [FlowState.matchable_iff] using h x

theorem State.holderOfTag_eq_some {s : State} {tag : Half} {x : FlowIx} (h0 : tag ≠ 0)
    (hx : (s.flow x).rt.state.enabled = true ∨ (s.flow x).rt.state.isDraining = true) (htag : (s.flow x).record.tag = tag)
    (hlow : ∀ y, y < x → (s.flow y).rt.state.enabled = true ∨ (s.flow y).rt.state.isDraining = true →
      (s.flow y).record.tag ≠ tag) : s.holderOfTag tag = some x := by
  rw [State.holderOfTag, if_neg h0]
  refine find?_allFlows _ x (by simpa [FlowState.matchable_iff, htag] using hx) fun y hy => ?_
  simpa [← FlowState.matchable_iff] using hlow y hy

theorem State.groupMismatch_perFrame {s : State} {f : FlowIx} (hg : (s.flow f).record.group ≠ none)
    (hm : (s.flow f).record.mode = .perFrame) : s.groupMismatch f = some 255 := by
  obtain ⟨g, hg⟩ := Option.ne_none_iff_exists'.1 hg
  simp [State.groupMismatch, hg, hm]

theorem State.groupMismatch_clash {s : State} {f x : FlowIx} (hg : (s.flow f).record.group ≠ none)
    (hm : (s.flow f).record.mode ≠ .perFrame) (hx : s.Clashes f x) (hlow : ∀ y, y < x → ¬ s.Clashes f y) :
    s.groupMismatch f = some (natByte x.val) := by
  obtain ⟨g, hg⟩ := Option.ne_none_iff_exists'.1 hg
  have hfind := find?_allFlows _ x ((s.constrains_iff_clashes hg x).2 hx)
    fun y hy => Bool.eq_false_iff.2 fun h => hlow y hy ((s.constrains_iff_clashes hg y).1 h)
  simp [State.groupMismatch, hg, hm, hfind]

theorem State.groupMismatch_eq_none {s : State} {f : FlowIx}
    (h : ¬ ((s.flow f).record.group ≠ none ∧ ((s.flow f).record.mode = .perFrame ∨ ∃ x, s.Clashes f x))) :
    s.groupMismatch f = none := by
  cases hg : (s.flow f).record.group with
  | none => simp [State.groupMismatch, hg]
  | some g =>
    simp only [hg, ne_eq, reduceCtorEq, not_false_eq_true, true_and, not_or, not_exists] at h
    obtain ⟨hm, hx⟩ := h
    have hfind := List.find?_eq_none.2 fun x (_ : x ∈ allFlows) hc => hx x ((s.constrains_iff_clashes hg x).1 hc)
    simp only [State.groupMismatch, hg, hm, if_false, hfind, Option.map_none]

@[simp] theorem State.holderOfTag_reloaded (s : State) (c : QueuedCommand) (tag : Half) :
    (s.reloaded c).holderOfTag tag = s.holderOfTag tag := by unfold State.reloaded; split <;> rfl

@[simp] theorem State.groupMismatch_reloaded (s : State) (c : QueuedCommand) (f : FlowIx) :
    (s.reloaded c).groupMismatch f = s.groupMismatch f := by unfold State.reloaded; split <;> rfl

/-! ### The five checks and the effect (Table 1-4) -/

theorem State.enableFlow_badState {s : State} {f : FlowIx} (c : QueuedCommand)
    (h : (s.flow f).rt.state ≠ .disabled) :
    (s.reloaded c).enableFlow c f = (s.reloaded c).answered c .badState (stateCode (s.flow f).rt.state) [] := by
  simp only [State.enableFlow, State.flow_reloaded, if_pos h, State.refuse_eq]

theorem State.enableFlow_noTag {s : State} {f : FlowIx} (c : QueuedCommand) (h : (s.flow f).rt.state = .disabled)
    (ht : (s.flow f).record.tag = 0) :
    (s.reloaded c).enableFlow c f = (s.reloaded c).answered c .invalidField 1 [] := by
  simp only [State.enableFlow, State.flow_reloaded, if_neg (not_not.2 h), if_pos ht, State.refuse_eq]

section
variable {s : State} {f : FlowIx} (c : QueuedCommand) (h : (s.flow f).rt.state = .disabled)
  (ht : (s.flow f).record.tag ≠ 0)
include h ht

theorem State.enableFlow_tagInUse {x : FlowIx} (hx : s.holderOfTag (s.flow f).record.tag = some x) :
    (s.reloaded c).enableFlow c f = (s.reloaded c).answered c .tagInUse (natByte x.val) [] := by
  simp only [State.enableFlow, State.flow_reloaded, if_neg (not_not.2 h), if_neg ht, State.holderOfTag_reloaded, hx,
    State.refuse_eq]

variable (hfree : s.holderOfTag (s.flow f).record.tag = none)
include hfree

theorem State.enableFlow_groupMismatch {detail : Byte} (hg : s.groupMismatch f = some detail) :
    (s.reloaded c).enableFlow c f = (s.reloaded c).answered c .groupMismatch detail [] := by
  simp only [State.enableFlow, State.flow_reloaded, if_neg (not_not.2 h), if_neg ht, State.holderOfTag_reloaded, hfree,
    State.groupMismatch_reloaded, hg, State.refuse_eq]

theorem State.enableFlow_noReservation (hg : s.groupMismatch f = none) (hp : s.sharedFree < (s.flow f).record.prime) :
    (s.reloaded c).enableFlow c f = (s.reloaded c).answered c .noReservation (natByte s.sharedFree) [] := by
  simp only [State.enableFlow, State.flow_reloaded, if_neg (not_not.2 h), if_neg ht, State.holderOfTag_reloaded, hfree,
    State.groupMismatch_reloaded, hg, State.sharedFree_reloaded, if_pos hp, State.refuse_eq]

theorem State.enableFlow_done (hg : s.groupMismatch f = none) (hp : (s.flow f).record.prime ≤ s.sharedFree) :
    (s.reloaded c).enableFlow c f =
      ((s.reloaded c).setFlow f { s.flow f with rt := .cleared .idle }).answered c .done 0 [] := by
  simp only [State.enableFlow, State.flow_reloaded, if_neg (not_not.2 h), if_neg ht, State.holderOfTag_reloaded, hfree,
    State.groupMismatch_reloaded, hg, State.sharedFree_reloaded, if_neg (Nat.not_lt.2 hp), State.succeed_eq,
    State.setRt_eq]

end

theorem exec_flowEnable {s : State} {c : QueuedCommand} (h : s.inTurn c) (hc : c.code = 0x04) (hl : c.length = 1)
    (hh : s.mgmt.claim.holder = some c.origin) :
    exec .flowEnable s = .next ((s.reloaded c).withFlow c ((s.reloaded c).enableFlow c)) :=
  congrArg Host.Outcome.next (State.execute_passes s true _ h hc hl hh)

/-- Settles O53: under the hypotheses of each case the checks before it pass, and the first that fails decides. -/
theorem flowEnableMakesFlowIdle : Obligations.FlowEnableMakesFlowIdle := by
  unfold Obligations.FlowEnableMakesFlowIdle
  intro s c hturn hcode hlen hholder r
  rw [exec_flowEnable hturn hcode hlen hholder]
  refine ⟨fun hix => congrArg _ (State.withFlow_badIndex _ _ hix), fun f hf => ?_⟩
  rw [State.withFlow_flow _ _ hf]
  refine ⟨fun hst => ?badState, fun hst htag => ?noTag, fun x hst htag hx hxtag hlow => ?tagInUse,
    fun hst htag hfresh hgroup hmode => ?perFrame, fun x hst htag hfresh hgroup hmode hx hlow => ?clash,
    fun hst htag hfresh hmix hprime => ?noReservation, fun hst htag hfresh hmix hprime => ?done⟩
  all_goals refine congrArg _ ?_
  case badState => exact State.enableFlow_badState c hst
  case noTag => exact State.enableFlow_noTag c hst htag
  case tagInUse => exact State.enableFlow_tagInUse c hst htag (State.holderOfTag_eq_some htag hx hxtag hlow)
  case perFrame =>
    exact State.enableFlow_groupMismatch c hst htag (State.holderOfTag_eq_none hfresh)
      (State.groupMismatch_perFrame hgroup hmode)
  case clash =>
    exact State.enableFlow_groupMismatch c hst htag (State.holderOfTag_eq_none hfresh)
      (State.groupMismatch_clash hgroup hmode hx hlow)
  case noReservation =>
    exact State.enableFlow_noReservation c hst htag (State.holderOfTag_eq_none hfresh)
      (State.groupMismatch_eq_none hmix) hprime
  case done =>
    exact State.enableFlow_done c hst htag (State.holderOfTag_eq_none hfresh) (State.groupMismatch_eq_none hmix) hprime

end Sys2Proof.Machine
end

section
/-! A frame matched to a flow (R11 to R14): the block it carries, and the order of the checks. -/

namespace Sys2Proof.Machine

/-! ### The block a SAMPLE frame carries (R14, R172) -/

theorem sampleLength_le (bs : List Byte) : sampleLength bs ≤ 12 := by
  unfold sampleLength; split <;> omega

theorem sampleChannels_le (bs : List Byte) : sampleChannels bs ≤ 8 := by
  unfold sampleChannels; omega

theorem sampleIndex_lt {bs : List Byte} {i c : Nat} (hi : i < sampleLength bs) (hc : c < sampleChannels bs) :
    i * sampleChannels bs + c < sampleLength bs * sampleChannels bs :=
  calc i * sampleChannels bs + c < i * sampleChannels bs + sampleChannels bs := Nat.add_lt_add_left hc _
    _ = (i + 1) * sampleChannels bs := (Nat.succ_mul _ _).symm
    _ ≤ sampleLength bs * sampleChannels bs := Nat.mul_le_mul_right _ hi

theorem byteAt_frameBody (bs : List Byte) {j : Nat} (h : j < 296) : byteAt (frameBody bs) j = byteAt bs (10 + j) := by
  simp [byteAt, frameBody, List.getD_eq_getElem?_getD, h]

/-- The 96 samples a body has room for, read from the frame itself (R172). -/
theorem bodySample_frameBody (bs : List Byte) {k : Nat} (h : k < 96) :
    bodySample (frameBody bs) k =
      byteAt bs (10 + 3 * k) ++ byteAt bs (10 + 3 * k + 1) ++ byteAt bs (10 + 3 * k + 2) := by
  rw [bodySample, byteAt_frameBody _ (by omega), byteAt_frameBody _ (by omega), byteAt_frameBody _ (by omega)]
  rfl

theorem Block.getElem?_frame (b : Block) (i : Nat) {c : Nat} (h : c < b.channels) :
    (b.frame i)[c]? = b.samples[i * b.channels + c]? := by
  simp [Block.frame, h]

/-- The samples of a block stand one sample frame after another, each with the channels in order (R172). -/
theorem sampleBlock_getElem?_frame (bs : List Byte) (mark : Bool) {i c : Nat} (hi : i < sampleLength bs)
    (hc : c < sampleChannels bs) :
    ((sampleBlock bs mark).frame i)[c]? = some (bodySample (frameBody bs) (i * sampleChannels bs + c)) := by
  rw [Block.getElem?_frame _ _ hc]
  simp [sampleBlock, sampleIndex_lt hi hc]

/-! ### The checks of a matched frame -/

theorem formatPasses_iff (r : FlowRecord) (bs : List Byte) :
    formatPasses r bs = true ↔ sampleChannels bs = r.channels ∧
      (r.mode = .fixedFull → halfFlag bs = false) ∧ (r.mode = .fixedHalf → halfFlag bs = true) := by
  cases hm : r.mode <;> simp [formatPasses, hm]

theorem State.matched_draining {s : State} {f : FlowIx} (bs : List Byte) (h : (s.flow f).rt.state.isDraining = true) :
    s.matched f bs = s := by
  simp [State.matched, h]

theorem State.matched_badFormat {s : State} {f : FlowIx} {bs : List Byte} (h : (s.flow f).rt.state.isDraining = false)
    (hp : formatPasses (s.flow f).record bs = false) : s.matched f bs = s.counted f .formatErrors := by
  simp [State.matched, h, hp, State.count_eq]

section
variable {s : State} {f : FlowIx} {bs : List Byte} (h : (s.flow f).rt.state.isDraining = false)
  (hp : formatPasses (s.flow f).record bs = true)
include h hp

theorem State.matched_good (hb : bodyGood bs = true) : s.matched f bs = s.arrive f (sampleBlock bs false) := by
  simp [State.matched, h, hp, hb]

theorem State.matched_badBody_discard (hb : bodyGood bs = false) (hc : (s.flow f).record.crc = .discard) :
    s.matched f bs = s.counted f .crcErrors := by
  simp [State.matched, h, hp, hb, hc, State.count_eq]

theorem State.matched_badBody_keep (hb : bodyGood bs = false) (hc : (s.flow f).record.crc = .keep) :
    s.matched f bs = (s.counted f .crcErrors).arrive f (sampleBlock bs true) := by
  simp [State.matched, h, hp, hb, hc, State.count_eq]

end

/-- Settles O18: the five cases of the checks, and every sample of the block found in its body bytes. -/
theorem matchedFrameIsChecked : Obligations.MatchedFrameIsChecked := by
  unfold Obligations.MatchedFrameIsChecked
  refine ⟨fun s f bs => ⟨State.matched_draining bs, fun h hfits => ?_, fun h hfits => ?_, fun h hfits => ?_,
    fun h hfits => ?_⟩, fun bs mark _ => ⟨rfl, rfl, rfl, rfl, fun i c hi hc => ?_⟩⟩
  · exact State.matched_badFormat h (Bool.eq_false_iff.2 (mt (formatPasses_iff _ _).1 hfits))
  · exact State.matched_good h ((formatPasses_iff _ _).2 hfits)
  · exact State.matched_badBody_discard h ((formatPasses_iff _ _).2 hfits)
  · exact State.matched_badBody_keep h ((formatPasses_iff _ _).2 hfits)
  · have hk : i * sampleChannels bs + c < 12 * 8 :=
      (sampleIndex_lt hi hc).trans_le (Nat.mul_le_mul (sampleLength_le bs) (sampleChannels_le bs))
    exact (sampleBlock_getElem?_frame bs mark hi hc).trans (congrArg some (bodySample_frameBody bs hk))

end Sys2Proof.Machine
end

section
/-! The offset of an arrival and its band (R21, R22), and the arrivals that are discarded (R33). -/

namespace Sys2Proof.Machine

/-! ### The offset and its bands -/

/-- The offset as a number modulo 65536 read as signed (R21). -/
theorem seqOffset_eq (q h : Half) :
    let m := (65536 + q.toNat - h.toNat) % 65536
    seqOffset q h = if m ≤ 32767 then (m : Int) else (m : Int) - 65536 := by
  have hm : (q - h).toNat = (65536 + q.toNat - h.toNat) % 65536 := by
    rw [BitVec.toNat_sub]
    have := h.isLt
    omega
  simp only [seqOffset, BitVec.toInt_eq_toNat_cond, hm]
  split <;> split <;> omega

theorem jumps_iff (d : Int) : jumps d = true ↔ 512 ≤ d ∨ d ≤ -512 := by simp [jumps]

theorem jumps_eq_false_iff (d : Int) : jumps d = false ↔ -511 ≤ d ∧ d ≤ 511 := by
  rw [← Bool.not_eq_true, jumps_iff]
  omega

theorem liesBeyond_iff (depth : Nat) (d : Int) : liesBeyond depth d = true ↔ (depth : Int) ≤ d := by simp [liesBeyond]

theorem liesBeyond_eq_false_iff (depth : Nat) (d : Int) : liesBeyond depth d = false ↔ d < depth := by simp [liesBeyond]

/-- Settles O19: the bands in their order along the offsets. None overlap, as the depth is below 512. -/
theorem offsetFallsInOneBand : Obligations.OffsetFallsInOneBand := by
  unfold Obligations.OffsetFallsInOneBand
  intro q h depth _ hmax
  refine ⟨seqOffset_eq q h, ?_⟩
  generalize seqOffset q h = d
  simp only [jumps_iff, jumps_eq_false_iff, liesBeyond_iff, liesBeyond_eq_false_iff]
  have bands : (512 ≤ d ∨ d ≤ -512) ∨ (-511 ≤ d ∧ d ≤ -1) ∨ (0 ≤ d ∧ d < depth) ∨ ((depth : Int) ≤ d ∧ d ≤ 511) := by
    omega
  obtain jump | behind | inside | beyond := bands
  · exact .inl (by omega)
  · exact .inr (.inl (by omega))
  · exact .inr (.inr (.inl (by omega)))
  · exact .inr (.inr (.inr (by omega)))

/-! ### The priming rebase condition (R31) -/

theorem rebases_iff (fl : Flow) (d : Int) :
    rebases fl d = true ↔
      fl.rt.state = .priming ∧ -((fl.record.depth : Int) - 1 - fl.window.highest) ≤ d ∧ d ≤ -1 := by
  simp [rebases]

theorem rebases_eq_false_of_nonneg (fl : Flow) {d : Int} (h : 0 ≤ d) : rebases fl d = false := by
  rw [← Bool.not_eq_true, rebases_iff]
  omega

theorem rebases_eq_false_of_far (fl : Flow) {d : Int}
    (h : fl.rt.state = .priming → d < -((fl.record.depth : Int) - 1 - fl.window.highest)) : rebases fl d = false := by
  rw [← Bool.not_eq_true, rebases_iff]
  rintro ⟨hp, hlow, -⟩
  exact absurd hlow (not_le.2 (h hp))

/-! ### The discards of Table 2-2 -/

/-- An arrival for a flow in PRIMING, READY, PLAYING or HOLDING is classified (R28). -/
theorem State.arrive_eq_classify {s : State} {f : FlowIx} (b : Block)
    (h : (s.flow f).rt.state = .priming ∨ (s.flow f).rt.state = .ready ∨ (s.flow f).rt.state = .playing ∨
      (s.flow f).rt.state = .holding) : s.arrive f b = s.classify f b := by
  unfold State.arrive
  obtain h | h | h | h := h <;> rw [h]

section
variable {s : State} {f : FlowIx} {b : Block} {d : Int}
  (hd : seqOffset b.seq (s.flow f).window.head = d) (hj : jumps d = false)
include hd hj

/-- Case 3: behind the head. -/
theorem State.classify_late (hr : rebases (s.flow f) d = false) (hb : d ≤ -1) :
    s.classify f b = s.counted f .late := by
  simp [State.classify, hd, hj, hr, hb, State.count_eq]

/-- What is left of the classification of an arrival that neither jumps nor lies behind the head: cases 4 to 7. -/
theorem State.classify_of_nonneg (h0 : 0 ≤ d) :
    s.classify f b =
      if d = 0 ∧ (s.flow f).window.entryAt 0 = .spent then s.counted f .late
      else if liesBeyond (s.flow f).record.depth d then s.counted f .beyond
      else if ((s.flow f).window.entryAt d.toNat).isHeld then s.counted f .duplicate
      else s.tryPlace f ((s.flow f).window.withEntry d.toNat (.held b)) := by
  have hb : ¬ d ≤ -1 := by omega
  simp [State.classify, hd, hj, rebases_eq_false_of_nonneg _ h0, hb, State.count_eq]

end

/-- Settles O22: each discard is a case of the classification, and the earlier cases of the table do not hold there. -/
theorem discardCountsOneCounter : Obligations.DiscardCountsOneCounter := by
  unfold Obligations.DiscardCountsOneCounter
  intro s f b hs w depth d
  rw [State.arrive_eq_classify b hs]
  have inBand (hlow : -511 ≤ d) (hhigh : d ≤ 511) : jumps d = false := (jumps_eq_false_iff d).2 ⟨hlow, hhigh⟩
  refine ⟨fun hlow hbehind hfar => ?late, fun hd hspent => ?spent, fun h0 hdepth hhigh hheld => ?duplicate,
    fun hdepth hhigh hhead => ?beyond⟩
  case late =>
    exact State.classify_late rfl (inBand hlow (by omega)) (rebases_eq_false_of_far _ hfar) hbehind
  case spent =>
    rw [State.classify_of_nonneg hd rfl le_rfl, if_pos ⟨rfl, hspent⟩]
  case duplicate =>
    have hhead : ¬ (d = 0 ∧ w.entryAt 0 = .spent) := by
      rintro ⟨hd, hspent⟩
      rw [hd, Int.toNat_zero, hspent] at hheld
      exact Bool.false_ne_true hheld
    have hin : ¬ liesBeyond depth d = true := mt (liesBeyond_iff depth d).1 (not_le.2 hdepth)
    rw [State.classify_of_nonneg rfl (inBand (by omega) hhigh) h0, if_neg hhead, if_neg hin, if_pos hheld]
  case beyond =>
    have h0 : 0 ≤ d := (Int.natCast_nonneg depth).trans hdepth
    have hhead' : ¬ (d = 0 ∧ w.entryAt 0 = .spent) := fun ⟨hd, hspent⟩ => hhead.elim (hd.not_gt ·) (· hspent)
    rw [State.classify_of_nonneg rfl (inBand (by omega) hhigh) h0, if_neg hhead',
      if_pos ((liesBeyond_iff depth d).2 hdepth)]

end Sys2Proof.Machine
end

section
/-! UNIT_SET (R55, R145, R159): the order of its checks, and what each of its three settings does when it is stored. -/

namespace Sys2Proof.Machine

/-! ### The three checks (R145) -/

section
variable {c : QueuedCommand}

theorem unitFault_mask (hm : 512 ≤ (unitMask c).toNat) : unitFault c = some 1 := by
  simp [unitFault, firstFailing, hm]

theorem unitFault_retry (hm : (unitMask c).toNat < 512) (hr : unitRetry c < 5 ∨ 1000 < unitRetry c) :
    unitFault c = some 2 := by
  have hout : decide (5 ≤ unitRetry c ∧ unitRetry c ≤ 1000) = false := decide_eq_false (by omega)
  simp only [unitFault, firstFailing, hm, hout, decide_true, if_true, Bool.false_eq_true, if_false]

theorem unitFault_threshold (hm : (unitMask c).toNat < 512) (h5 : 5 ≤ unitRetry c) (h1000 : unitRetry c ≤ 1000)
    (ht : 384 < unitThreshold c) : unitFault c = some 3 := by
  simp [unitFault, firstFailing, hm, h5, h1000, ht]

theorem unitFault_eq_none (hm : (unitMask c).toNat < 512) (h5 : 5 ≤ unitRetry c) (h1000 : unitRetry c ≤ 1000)
    (ht : unitThreshold c ≤ 384) : unitFault c = none := by
  simp [unitFault, firstFailing, hm, h5, h1000, ht]

end

/-! ### The mask and the retry interval (R159) -/

/-- The Notice Unit after a new mask and retry interval are stored: an entry whose kind the mask has off is gone, and
with it the offer of its frame. -/
def NoticeUnit.configured (n : NoticeUnit) (mask : BitVec 16) (retry : Nat) : NoticeUnit :=
  let kept (e : NoticeEntry) : Bool := mask.getLsbD (noticeCode e.kind)
  { n with
    mask := mask, retry := retry, entries := n.entries.filter kept
    offer := n.offer.filter fun o => n.entries.all fun e => kept e || e.number != o.number }

/-- The offer stays exactly if no removed entry holds its number, so every entry is kept or holds another. -/
theorem NoticeUnit.setMask_retry (n : NoticeUnit) (mask : BitVec 16) (retry : Nat) :
    { n.setMask mask with retry := retry } = n.configured mask retry := by
  simp only [NoticeUnit.setMask, NoticeUnit.configured, List.not_any_eq_all_not, Bool.not_and, Bool.not_not, bne]

/-! ### The pool low threshold (R55) -/

theorem State.setThreshold_unchanged {s : State} {t : Nat} (h : t = s.pool.threshold) : s.setThreshold t = s :=
  if_pos h

theorem State.setThreshold_arms {s : State} {t : Nat} (h : t ≠ s.pool.threshold) (hf : t ≤ s.pool.free) :
    s.setThreshold t = s.withPool { s.pool with threshold := t, armed := true } := by
  rw [State.setThreshold, if_neg h, if_neg fun hlow => hlow.2.not_ge hf]

theorem State.setThreshold_raises {s : State} {t : Nat} (h : t ≠ s.pool.threshold) (hf : s.pool.free < t) :
    s.setThreshold t =
      (s.withPool { s.pool with threshold := t, armed := false }).raise (plainRaise .poolLow 0) := by
  rw [State.setThreshold, if_neg h, if_pos ⟨Nat.ne_zero_of_lt hf, hf⟩]

/-! ### The command -/

@[simp] theorem State.pool_reloaded (s : State) (c : QueuedCommand) : (s.reloaded c).pool = s.pool := by
  unfold State.reloaded; split <;> rfl

@[simp] theorem State.notice_reloaded (s : State) (c : QueuedCommand) : (s.reloaded c).notice = s.notice := by
  unfold State.reloaded; split <;> rfl

/-- The threshold is set with the new mask and retry interval already stored. -/
theorem State.setUnit_eq (s : State) (c : QueuedCommand) :
    s.setUnit c =
      (s.withNotice (s.notice.configured (unitMask c) (unitRetry c))).setThreshold (unitThreshold c) := by
  rw [← NoticeUnit.setMask_retry]
  rfl

section
variable {s : State} {c : QueuedCommand} (h : s.inTurn c) (hc : c.code = 0x0D) (hl : c.length = 6)
  (hh : s.mgmt.claim.holder = some c.origin)
include h hc hl hh

theorem exec_unitSet_invalidField {id : Nat} (hf : unitFault c = some id) :
    exec .unitSet s = .next ((s.reloaded c).answered c .invalidField (natByte id) []) := by
  refine congrArg Host.Outcome.next ((State.execute_passes s true _ h hc hl hh).trans ?_)
  simp only [hf, State.refuse_eq]

theorem exec_unitSet_done (hf : unitFault c = none) :
    exec .unitSet s = .next (((s.reloaded c).setUnit c).answered c .done 0 []) := by
  refine congrArg Host.Outcome.next ((State.execute_passes s true _ h hc hl hh).trans ?_)
  simp only [hf, State.succeed_eq]

end

/-- Settles O57: the first check that fails decides; passing, the mask and the retry interval are stored, and the
threshold falls into one of its three cases. -/
theorem unitSetStoresThreeSettings : Obligations.UnitSetStoresThreeSettings := by
  unfold Obligations.UnitSetStoresThreeSettings
  intro s c hturn hcode hlen hholder r mask retry threshold kept n
  refine ⟨fun hm => ?mask, fun hm hr => ?retry, fun hm h5 h1000 ht => ?threshold, fun hm h5 h1000 ht => ?stored⟩
  case mask => exact exec_unitSet_invalidField hturn hcode hlen hholder (unitFault_mask hm)
  case retry => exact exec_unitSet_invalidField hturn hcode hlen hholder (unitFault_retry hm hr)
  case threshold => exact exec_unitSet_invalidField hturn hcode hlen hholder (unitFault_threshold hm h5 h1000 ht)
  case stored =>
    have hset : r.setUnit c = (r.withNotice n).setThreshold threshold := by
      rw [State.setUnit_eq, State.notice_reloaded]
      rfl
    have hpool : (r.withNotice n).pool = s.pool := State.pool_reloaded s c
    rw [exec_unitSet_done hturn hcode hlen hholder (unitFault_eq_none hm h5 h1000 ht), hset]
    refine ⟨fun hsame => ?unchanged, fun hnew hfree => ?armed, fun hnew hlow => ?raised⟩
    case unchanged => rw [State.setThreshold_unchanged (hpool ▸ hsame)]
    case armed =>
      rw [State.setThreshold_arms (hpool ▸ hnew) (hpool ▸ hfree), hpool]
      rfl
    case raised =>
      rw [State.setThreshold_raises (hpool ▸ hnew) (hpool ▸ hlow), hpool]
      rfl

end Sys2Proof.Machine
end

section
/-! The block boundary of one flow (R63, R65 to R71): its own decision, and what is left to its group after it (R82,
R86). -/

namespace Sys2Proof.Machine

/-! ### Groups that keep a candidate (R82) -/

theorem State.settleGroup_of_candidate {s : State} {g : GroupIx} {f : FlowIx} (h : s.candidate g f = true) :
    s.settleGroup g = s := by
  have hany : allFlows.any (s.candidate g) = true := List.any_eq_true.2 ⟨f, List.mem_finRange f, h⟩
  simp [State.settleGroup, hany]

theorem State.settleGroupOf_of_group {s : State} {f : FlowIx} {g : GroupIx} (h : (s.flow f).record.group = some g) :
    s.settleGroupOf f = s.settleGroup g := by
  simp [State.settleGroupOf, h]

theorem State.settleGroupOf_of_plays {s : State} {f : FlowIx}
    (h : (s.flow f).rt.state = .playing ∨ (s.flow f).rt.state = .holding) : s.settleGroupOf f = s := by
  cases hg : (s.flow f).record.group with
  | none => simp [State.settleGroupOf, hg]
  | some g =>
    rw [State.settleGroupOf_of_group hg, State.settleGroup_of_candidate ((s.candidate_iff g f).2 ⟨hg, h⟩)]

/-! ### The boundary and the group's part of it (R86) -/

/-- What follows a flow's own decision within its boundary: the part of the group it was the reference of, or the
RUNNING-to-FORMING rule alone. -/
def State.groupPart (u : State) (f : FlowIx) : Option GroupIx → State
  | some g => (u.referenceBoundary g f).settleGroup g
  | none => u.settleGroupOf f

theorem exec_blockBoundary {s : State} {f : FlowIx} (h : (s.flow f).boundaryDue = true) :
    exec (.blockBoundary f) s = .next ((s.ownBoundary f).groupPart f (s.refersTo f)) := by
  have hexec : exec (.blockBoundary f) s = .next (s.boundary f) := rfl
  rw [hexec, State.boundary, if_pos h]
  cases s.refersTo f <;> rfl

theorem Flow.boundaryDue_of {fl : Flow} (h : fl.rt.state = .playing ∨ fl.rt.state = .holding)
    (hlen : fl.rt.blockLen = some fl.rt.readIndex) : fl.boundaryDue = true := by
  obtain h | h := h <;> simp [Flow.boundaryDue, FlowState.presenting, FlowState.playsOrHolds, h, hlen]

theorem State.refersTo_group {s : State} {f : FlowIx} {g : GroupIx} (h : s.refersTo f = some g) :
    (s.flow f).record.group = some g := by
  unfold State.refersTo at h
  split at h
  · next k hk =>
    split at h
    · rw [hk, h]
    · simp at h
  · simp at h

/-- A boundary that leaves its flow in PLAYING or HOLDING leaves a candidate, so no group becomes FORMING. -/
theorem State.boundaryGives_of {s u : State} {f : FlowIx} (hdue : (s.flow f).boundaryDue = true)
    (hown : s.ownBoundary f = u) (hplays : (u.flow f).rt.state = .playing ∨ (u.flow f).rt.state = .holding) :
    s.boundaryGives f u := by
  rw [State.boundaryGives, exec_blockBoundary hdue, hown]
  refine ⟨fun hnone => ?_, fun g hsome => ?_⟩
  · rw [hnone, State.groupPart, State.settleGroupOf_of_plays hplays]
  · rw [hsome, State.groupPart]

/-! ### The head after an advance (R36) -/

theorem Window.entryAt_zero_advanced (w : Window) {depth : Nat} (h : 2 ≤ depth) :
    (w.advanced depth).entryAt 0 = w.entryAt 1 := by
  have : 0 < 32 ∧ 0 + 1 < depth := by omega
  rw [Window.entryAt_advanced, if_pos this]

theorem Window.headHeld_of_held {w : Window} {b : Block} (h : w.entryAt 0 = .held b) : w.headHeld = 1 := by
  simp [Window.headHeld, h, Entry.isHeld]

theorem Window.headHeld_of_empty {w : Window} (h : w.entryAt 0 = .empty) : w.headHeld = 0 := by
  simp [Window.headHeld, h, Entry.isHeld]

theorem Window.headHeld_of_spent {w : Window} (h : w.entryAt 0 = .spent) : w.headHeld = 0 := by
  simp [Window.headHeld, h, Entry.isHeld]

/-! ### A concealment block after other work on the flow (R66, R67) -/

theorem Flow.counter_bump_ne (fl : Flow) {c d : Counter} (h : c ≠ d) : (fl.bump c).counter d = fl.counter d := by
  rw [Flow.counter_bump, if_neg h]

/-- CONCEALED wraps as it would have wrapped before that work, as long as the work left it alone. -/
theorem State.concealNext_of_changed {s : State} {f : FlowIx} {x : Flow} (p : Pool) (n : NoticeUnit) (k : Nat)
    (hx : x.counter .concealed = (s.flow f).counter .concealed) :
    (((s.setFlow f x).withPool p).withNotice n).concealNext f k =
      ((s.setFlow f { x.bump .concealed with
          window := x.window.withEntry 0 .spent
          held := x.held - x.window.headHeld
          rt := x.rt.toHolding x.record k }).withPool (p.released x.window.headHeld)).withNotice
        (n.takeAll (s.wrapRaises f .concealed)) := by
  have hwrap : (s.setFlow f x).wrapRaises f .concealed = s.wrapRaises f .concealed :=
    State.wrapRaises_of (by rw [State.flow_setFlow_self, hx])
  rw [State.concealNext_eq]
  simp [hwrap]

/-! ### The boundary in PLAYING (R65) -/

theorem State.ownBoundary_playing {s : State} {f : FlowIx} (h : (s.flow f).rt.state = .playing) :
    s.ownBoundary f = s.playingBoundary f := by
  simp [State.ownBoundary, h]

theorem State.playingBoundary_held {s : State} {f : FlowIx} {b : Block}
    (h : ((s.finishBlock f).flow f).window.entryAt 0 = .held b) :
    s.playingBoundary f =
      (s.finishBlock f).setRt f { ((s.finishBlock f).flow f).rt with readIndex := 0, blockLen := some b.length } := by
  simp only [State.playingBoundary, h]

theorem State.playingBoundary_empty {s : State} {f : FlowIx}
    (h : ((s.finishBlock f).flow f).window.entryAt 0 = .empty) :
    s.playingBoundary f = ((s.finishBlock f).concealNext f 1).raise (flowStateRaise f .holding) := by
  simp only [State.playingBoundary, h]

/-- Settles O26: the block is finished, and the entry that has come to the head decides. -/
theorem playingBoundaryPlaysNextOrHolds : Obligations.PlayingBoundaryPlaysNextOrHolds := by
  unfold Obligations.PlayingBoundaryPlaysNextOrHolds
  intro s f b hlaw hst hlen hhead fl w
  obtain ⟨⟨hdepth, -⟩, -⟩ := hlaw
  have hdue := Flow.boundaryDue_of (.inl hst) hlen
  have hnext : ((s.finishBlock f).flow f).window.entryAt 0 = fl.window.entryAt 1 := by
    rw [State.finishBlock_eq s f b hhead]
    simp only [State.flow_withNotice, State.flow_withPool, State.flow_setFlow_self]
    exact Window.entryAt_zero_advanced fl.window hdepth
  refine ⟨fun b' hb' => ?held, fun hempty => ?empty⟩
  case held =>
    refine State.boundaryGives_of hdue ?_ (.inl (by simpa using hst))
    rw [State.ownBoundary_playing hst, State.playingBoundary_held (hnext.trans hb'), State.finishBlock_eq s f b hhead,
      State.setRt_eq]
    simp [fl, w]
  case empty =>
    refine State.boundaryGives_of hdue ?_ (by simp)
    have hgone : ((s.flow f).window.advanced (s.flow f).record.depth).headHeld = 0 :=
      Window.headHeld_of_empty ((Window.entryAt_zero_advanced _ hdepth).trans hempty)
    rw [State.ownBoundary_playing hst, State.playingBoundary_empty (hnext.trans hempty), State.finishBlock_eq s f b hhead,
      State.concealNext_of_changed]
    · simp only [hgone, NoticeUnit.takeAll_append]
      rfl
    · exact Flow.counter_bump_ne _ (by decide)

end Sys2Proof.Machine
end

section
/-! The boundary of a flow in HOLDING (R68 to R72): its five cases, and the groups after a boundary that ends the flow's
playing and holding (R82, R86). -/

namespace Sys2Proof.Machine

/-! ### Groups after a boundary that ends playing and holding -/

@[simp] theorem State.setGroup_setGroup (s : State) (g : GroupIx) (x y : Group) :
    (s.setGroup g x).setGroup g y = s.setGroup g y := by
  simp [State.setGroup]

@[simp] theorem State.candidate_setGroup (s : State) (g : GroupIx) (x : Group) :
    (s.setGroup g x).candidate = s.candidate := rfl

/-- A group that has become FORMING stays as it is. -/
theorem State.settleGroup_of_forming {s : State} {g : GroupIx} (h : (s.group g).state = .forming) :
    s.settleGroup g = s := by
  simp [State.settleGroup, h]

/-- What a reference that no longer plays or holds does to its group (R86). -/
def State.clearSlipDone (s : State) (g : GroupIx) : State := s.setGroup g { s.group g with slipDone := false }

/-- The slip-done flag plays no part in the settling, and a group that becomes FORMING has it cleared anyway. -/
theorem State.settleGroup_slipDone_settleGroup (u : State) (g : GroupIx) :
    ((u.settleGroup g).clearSlipDone g).settleGroup g = (u.clearSlipDone g).settleGroup g := by
  unfold State.clearSlipDone
  by_cases h : (u.group g).state = .running ∧ allFlows.any (u.candidate g) = false
  · have hu : u.settleGroup g = u.setGroup g ((u.group g).cleared .forming) := if_pos h
    rw [hu, State.settleGroup_of_forming (by simp [Group.cleared]), State.settleGroup, if_pos (by simpa using h)]
    simp [Group.cleared]
  · have hu : u.settleGroup g = u := if_neg h
    rw [hu]

theorem State.settleGroup_settleGroup (u : State) (g : GroupIx) : (u.settleGroup g).settleGroup g = u.settleGroup g := by
  by_cases h : (u.group g).state = .running ∧ allFlows.any (u.candidate g) = false
  · have hu : u.settleGroup g = u.setGroup g ((u.group g).cleared .forming) := if_pos h
    rw [hu, State.settleGroup_of_forming (by simp [Group.cleared])]
  · have hu : u.settleGroup g = u := if_neg h
    rw [hu, hu]

theorem State.groupPart_of_left {u : State} {f : FlowIx} (g : GroupIx)
    (hleft : (u.flow f).rt.state.playsOrHolds = false) :
    u.groupPart f (some g) = (u.clearSlipDone g).settleGroup g := by
  simp [State.groupPart, State.referenceBoundary, hleft, State.clearSlipDone]

/-- A cut settles the group of its flow itself (R72); the boundary's own settling then finds nothing more to do. -/
theorem State.groupPart_settleGroupOf {u : State} {f : FlowIx} {led : Option GroupIx}
    (hled : ∀ g, led = some g → (u.flow f).record.group = some g) (hleft : (u.flow f).rt.state.playsOrHolds = false) :
    (u.settleGroupOf f).groupPart f led = u.groupPart f led := by
  cases led with
  | none =>
    cases hg : (u.flow f).record.group with
    | none => simp [State.groupPart, State.settleGroupOf, hg]
    | some g =>
      have hsettled : (u.settleGroup g).settleGroupOf f = (u.settleGroup g).settleGroup g :=
        State.settleGroupOf_of_group (by rw [State.settleGroup_eq]; exact hg)
      rw [State.groupPart, State.groupPart, State.settleGroupOf_of_group hg, hsettled, State.settleGroup_settleGroup]
  | some g =>
    rw [State.groupPart_of_left g (by simpa using hleft), State.groupPart_of_left g hleft,
      State.settleGroupOf_of_group (hled g rfl), State.settleGroup_slipDone_settleGroup]

theorem State.groupPart_eq {u : State} (f : FlowIx) (led : Option GroupIx)
    (hleft : (u.flow f).rt.state.playsOrHolds = false) :
    u.groupPart f led = { u with groups := (u.groupPart f led).groups } := by
  cases led with
  | none => exact State.settleGroupOf_eq u f
  | some g => rw [State.groupPart_of_left g hleft, State.settleGroup_eq]; rfl

theorem State.group_clearSlipDone (s : State) (k g : GroupIx) :
    (s.clearSlipDone k).group g = if g = k then { s.group g with slipDone := false } else s.group g := by
  rw [State.clearSlipDone, State.group_setGroup]
  split
  · next h => rw [h]
  · rfl

/-- Whether a flow leads a group rests on the group's state, of which the slip-done flag is no part. -/
theorem State.leads_clearSlipDone_iff (s : State) (k : GroupIx) (f : FlowIx) (g : GroupIx) :
    (s.clearSlipDone k).leads f g ↔ s.leads f g := by
  have hstate : ((s.clearSlipDone k).group g).state = (s.group g).state := by
    rw [State.group_clearSlipDone]; split <;> rfl
  rw [State.leads, hstate]
  rfl

/-- The groups after a boundary of flow `f` that leaves `u`, in which `f` plays and holds no more (R82, R86). -/
theorem State.groupsAfterExit_groupPart {s u : State} {f : FlowIx} (hgroup : ∀ g, u.group g = s.group g)
    (hflow : ∀ x, x ≠ f → u.flow x = s.flow x) (hrecord : (u.flow f).record = (s.flow f).record)
    (hleft : (u.flow f).rt.state.playsOrHolds = false) :
    s.groupsAfterExit (u.groupPart f (s.refersTo f)) f := by
  intro g
  cases hled : s.refersTo f with
  | none =>
    obtain ⟨hleads, hother⟩ := s.groupsAfterLoss_settle u f hgroup hflow hrecord hleft g
    exact ⟨hleads, fun _ h => absurd h (by simp), fun h _ => hother h⟩
  | some k =>
    have hk : (u.flow f).record.group = some k := by rw [hrecord, State.refersTo_group hled]
    have hpart : u.groupPart f (some k) = (u.clearSlipDone k).settleGroupOf f := by
      rw [State.groupPart_of_left k hleft, State.settleGroupOf_of_group (s := u.clearSlipDone k) hk]
    obtain ⟨hleads, hother⟩ := (s.clearSlipDone k).groupsAfterLoss_settle (u.clearSlipDone k) f
      (fun g => by simp only [State.group_clearSlipDone, hgroup]) hflow hrecord hleft g
    rw [State.leads_clearSlipDone_iff, State.group_clearSlipDone] at hleads hother
    rw [hpart]
    refine ⟨fun h => ?_, fun h hg => ?_, fun h hg => ?_⟩
    · rw [hleads h]; split <;> rfl
    · rw [hother h, if_pos (Option.some.inj hg).symm]
    · rw [hother h, if_neg fun hgk : g = k => hg (congrArg some hgk.symm)]

/-- A boundary that takes its flow out of PLAYING and HOLDING: the flow, the pool and the notices are as the flow's own
decision leaves them, and nothing else but the groups is touched. -/
theorem exec_blockBoundary_exit {s : State} {f : FlowIx} {x : Flow} {p : Pool} {n : NoticeUnit}
    (hdue : (s.flow f).boundaryDue = true)
    (hown : (s.ownBoundary f).groupPart f (s.refersTo f) =
      (((s.setFlow f x).withPool p).withNotice n).groupPart f (s.refersTo f))
    (hrecord : x.record = (s.flow f).record) (hleft : x.rt.state.playsOrHolds = false) :
    ∃ t, exec (.blockBoundary f) s = .next t ∧ t.flow f = x ∧ (∀ y : FlowIx, y ≠ f → t.flow y = s.flow y) ∧
      t.pool = p ∧ t.notice = n ∧ s.groupsAfterExit t f ∧ s.sameElsewhere t := by
  generalize hu : ((s.setFlow f x).withPool p).withNotice n = u at hown
  have hx : u.flow f = x := hu ▸ State.flow_setFlow_self s f x
  have hother (y : FlowIx) (hy : y ≠ f) : u.flow y = s.flow y := hu ▸ State.flow_setFlow_ne s x hy
  have hleft' : (u.flow f).rt.state.playsOrHolds = false := by rw [hx, hleft]
  have hgroups : s.groupsAfterExit (u.groupPart f (s.refersTo f)) f :=
    State.groupsAfterExit_groupPart (fun _ => hu ▸ rfl) hother (by rw [hx, hrecord]) hleft'
  have hframe := State.groupPart_eq f (s.refersTo f) hleft'
  refine ⟨u.groupPart f (s.refersTo f), (exec_blockBoundary hdue).trans (congrArg _ hown), ?_⟩
  generalize u.groupPart f (s.refersTo f) = t at hgroups hframe ⊢
  have hflow (y : FlowIx) : t.flow y = u.flow y := by rw [hframe]; rfl
  refine ⟨(hflow f).trans hx, fun y hy => (hflow y).trans (hother y hy), ?_, ?_, hgroups, ?_⟩
  all_goals rw [hframe, ← hu]
  · rfl
  · rfl
  · exact ⟨rfl, rfl, rfl, rfl, rfl⟩

/-! ### The five cases (R68 to R71) -/

theorem State.ownBoundary_holding {s : State} {f : FlowIx} (h : (s.flow f).rt.state = .holding) :
    s.ownBoundary f = s.holdingBoundary f := by
  simp [State.ownBoundary, h]

/-- A flow whose SPENT head has been advanced past: no buffer is given back (R36). -/
def Flow.headAdvanced (fl : Flow) : Flow := { fl with window := fl.window.advanced fl.record.depth }

theorem State.advance_of_spent {s : State} {f : FlowIx} (h : (s.flow f).window.entryAt 0 = .spent) :
    s.advance f = s.setFlow f (s.flow f).headAdvanced := by
  rw [State.advance_eq, Window.headHeld_of_spent h]
  rfl

theorem State.counted_setFlow {s : State} {f : FlowIx} {x : Flow} {c : Counter}
    (hx : x.counters = (s.flow f).counters) :
    (s.setFlow f x).counted f c = (s.setFlow f (x.bump c)).withNotice (s.notice.takeAll (s.wrapRaises f c)) := by
  simp [State.counted, State.wrapRaises_setFlow hx]

/-- A concealment block that follows another one: the flow stays in HOLDING (R69, R71). -/
theorem State.concealNext_of_holding {s : State} {f : FlowIx} {x : Flow} (p : Pool) (n : NoticeUnit) (k : Nat)
    (hx : x.counter .concealed = (s.flow f).counter .concealed) (hst : x.rt.state = .holding) :
    (((s.setFlow f x).withPool p).withNotice n).concealNext f k =
      ((s.setFlow f { x.bump .concealed with
          window := x.window.withEntry 0 .spent
          held := x.held - x.window.headHeld
          rt := { x.rt with
            readIndex := 0, blockLen := some (concealLength x.record x.rt.lastLen), holdCount := k
            fadeStage := fadeStageFor x.record k } }).withPool (p.released x.window.headHeld)).withNotice
        (n.takeAll (s.wrapRaises f .concealed)) := by
  rw [State.concealNext_of_changed p n k hx, Runtime.toHolding, ← hst]

section
variable {s : State} {f : FlowIx} (hspent : (s.flow f).window.entryAt 0 = .spent)
include hspent

section
variable {b : Block} (hfound : (s.flow f).headAdvanced.window.entryAt 0 = .held b)
include hfound

theorem State.holdingBoundary_atOnce (hexit : (s.flow f).record.exit = .atOnce) :
    s.holdingBoundary f =
      (s.setFlow f { (s.flow f).headAdvanced with rt := (s.flow f).rt.toPlaying b.length }).withNotice
        (s.notice.take (flowStateRaise f .playing)) := by
  simp only [State.holdingBoundary, State.advance_of_spent hspent, State.flow_setFlow_self, hfound, hexit,
    State.setRt_eq, State.setFlow_setFlow, State.raise_eq, State.notice_setFlow]
  rfl

variable (hexit : (s.flow f).record.exit = .reprime)
include hexit

theorem State.holdingBoundary_discard (hfade : (s.flow f).rt.holdCount ≤ (s.flow f).record.fade) :
    s.holdingBoundary f =
      ((s.setFlow f ((s.flow f).headAdvanced.bump .holdDiscards)).withNotice
        (s.notice.takeAll (s.wrapRaises f .holdDiscards))).concealNext f ((s.flow f).rt.holdCount + 1) := by
  rw [← State.counted_setFlow (x := (s.flow f).headAdvanced) rfl]
  simp only [State.holdingBoundary, State.advance_of_spent hspent, State.flow_setFlow_self, hfound, hexit, if_pos hfade,
    State.count_eq]

theorem State.holdingBoundary_reprime (hfade : (s.flow f).record.fade < (s.flow f).rt.holdCount) :
    s.holdingBoundary f =
      s.setFlow f { (s.flow f).headAdvanced with
        rt := { Runtime.reset with
          state :=
            if (s.flow f).record.prime ≤ (s.flow f).headAdvanced.window.contiguous then .ready else .priming
          silence := (s.flow f).rt.silence, late := (s.flow f).rt.late } } := by
  simp only [State.holdingBoundary, State.advance_of_spent hspent, State.flow_setFlow_self, hfound, hexit,
    if_neg (Nat.not_le.2 hfade), State.setRt_eq, State.setFlow_setFlow]
  split <;> rfl

end

section
variable (hempty : (s.flow f).headAdvanced.window.entryAt 0 = .empty)
include hempty

theorem State.holdingBoundary_conceal (hlimit : (s.flow f).rt.holdCount < (s.flow f).record.holdLimit) :
    s.holdingBoundary f =
      (s.setFlow f (s.flow f).headAdvanced).concealNext f ((s.flow f).rt.holdCount + 1) := by
  simp only [State.holdingBoundary, State.advance_of_spent hspent, State.flow_setFlow_self, hempty, if_pos hlimit]

theorem State.holdingBoundary_cut (hlimit : (s.flow f).record.holdLimit ≤ (s.flow f).rt.holdCount) :
    s.holdingBoundary f =
      (((s.setFlow f ((s.flow f).headAdvanced.emptied (s.flow f).rt.toCut)).withPool
        (s.pool.released (s.flow f).held)).withNotice (s.notice.take (flowStateRaise f .cut))).settleGroupOf f := by
  simp only [State.holdingBoundary, State.advance_of_spent hspent, State.flow_setFlow_self, hempty,
    if_neg (Nat.not_lt.2 hlimit), State.cutFlow_eq, State.setFlow_setFlow]
  rfl

end
end

/-- Settles O27: the entry that has come to the head, the hold exit and the hold count name one of the five cases. -/
theorem holdingBoundaryFollowsTable : Obligations.HoldingBoundaryFollowsTable := by
  unfold Obligations.HoldingBoundaryFollowsTable
  refine ⟨fun s f hlaw hst hlen hspent => ?_, fun s f hlaw hst hlen hspent => ?_⟩
  all_goals
    intro fl w k
    obtain ⟨⟨hdepth, -⟩, -⟩ := hlaw
    have hdue := Flow.boundaryDue_of (.inr hst) hlen
    have hown := State.ownBoundary_holding hst
    have hnext : fl.headAdvanced.window.entryAt 0 = fl.window.entryAt 1 := Window.entryAt_zero_advanced _ hdepth
  · refine ⟨fun b hb hexit => ?atOnce, fun b hb hexit hfade => ?discard, fun hempty hlimit => ?conceal⟩
    case atOnce =>
      have hfound := hnext.trans hb
      refine State.boundaryGives_of hdue ?_ (by simp)
      exact hown.trans (State.holdingBoundary_atOnce hspent hfound hexit)
    case discard =>
      have hfound := hnext.trans hb
      refine State.boundaryGives_of hdue ?_ (by simpa using .inr hst)
      have hheld : (fl.headAdvanced.bump .holdDiscards).window.headHeld = 1 := Window.headHeld_of_held hfound
      have hconceal := State.concealNext_of_holding (x := fl.headAdvanced.bump .holdDiscards) s.pool
        (s.notice.takeAll (s.wrapRaises f .holdDiscards)) (k + 1) (Flow.counter_bump_ne _ (by decide)) hst
      rw [hheld, ← NoticeUnit.takeAll_append] at hconceal
      rw [hown, State.holdingBoundary_discard hspent hfound hexit hfade]
      exact hconceal
    case conceal =>
      have hfound := hnext.trans hempty
      refine State.boundaryGives_of hdue ?_ (by simpa using .inr hst)
      have hconceal := State.concealNext_of_holding (x := fl.headAdvanced) s.pool s.notice (k + 1) rfl hst
      rw [Window.headHeld_of_empty hfound] at hconceal
      rw [hown, State.holdingBoundary_conceal hspent hfound hlimit]
      exact hconceal
  · refine ⟨fun b hb hexit hfade => ?reprime, fun hempty hlimit => ?cut⟩
    case reprime =>
      have hfound := hnext.trans hb
      refine exec_blockBoundary_exit (p := s.pool) (n := s.notice) hdue ?_ rfl ?_
      · rw [hown, State.holdingBoundary_reprime hspent hfound hexit hfade]
        rfl
      · dsimp only
        split <;> rfl
    case cut =>
      have hfound := hnext.trans hempty
      refine exec_blockBoundary_exit hdue ?_ rfl rfl
      rw [hown, State.holdingBoundary_cut hspent hfound hlimit]
      refine State.groupPart_settleGroupOf (fun g hg => ?_) ?_
      · rw [State.flow_withNotice, State.flow_withPool, State.flow_setFlow_self]
        exact State.refersTo_group hg
      · rw [State.flow_withNotice, State.flow_withPool, State.flow_setFlow_self]
        rfl

end Sys2Proof.Machine
end

section
/-! FLOW_DISABLE (R76, R142): the flow found DISABLED, stopped at once, or left to drain. -/

namespace Sys2Proof.Machine

/-! ### What the reload of the lease and an answer leave (R132, R136) -/

@[simp] theorem State.group_reloaded (s : State) (c : QueuedCommand) (g : GroupIx) :
    (s.reloaded c).group g = s.group g := by unfold State.reloaded; split <;> rfl

@[simp] theorem State.lane_reloaded (s : State) (c : QueuedCommand) : (s.reloaded c).lane = s.lane := by
  unfold State.reloaded; split <;> rfl

@[simp] theorem State.ring_reloaded (s : State) (c : QueuedCommand) : (s.reloaded c).ring = s.ring := by
  unfold State.reloaded; split <;> rfl

@[simp] theorem State.pending_reloaded (s : State) (c : QueuedCommand) : (s.reloaded c).pending = s.pending := by
  unfold State.reloaded; split <;> rfl

section
variable (s : State) (c : QueuedCommand) (status : Status) (detail : Byte) (data : List Byte)

@[simp] theorem State.flow_answered (f : FlowIx) : (s.answered c status detail data).flow f = s.flow f := rfl
@[simp] theorem State.group_answered (g : GroupIx) : (s.answered c status detail data).group g = s.group g := rfl
@[simp] theorem State.pool_answered : (s.answered c status detail data).pool = s.pool := rfl
@[simp] theorem State.lane_answered : (s.answered c status detail data).lane = s.lane := rfl
@[simp] theorem State.notice_answered : (s.answered c status detail data).notice = s.notice := rfl
@[simp] theorem State.pending_answered : (s.answered c status detail data).pending = s.pending := rfl

variable {s} {t : State}

theorem State.ring_answered_congr (h : t.ring = s.ring) :
    (t.answered c status detail data).ring = (s.answered c status detail data).ring := by
  simp [State.answered, h]

theorem State.mgmt_answered_congr (h : t.mgmt = s.mgmt) :
    (t.answered c status detail data).mgmt = (s.answered c status detail data).mgmt := by
  simp [State.answered, h]

end

/-! ### The three effects (R76) -/

section
variable {s : State} {f : FlowIx} (c : QueuedCommand)

theorem State.disableFlow_disabled (h : (s.flow f).rt.state = .disabled) :
    s.disableFlow c f = s.answered c .done 0 [] := by
  simp only [State.disableFlow, h, State.succeed_eq]

theorem State.disableFlow_stops (h : (s.flow f).rt.state.enabled = true)
    (hstops : (s.flow f).rt.state ≠ .playing ∧ (s.flow f).rt.state ≠ .holding ∨ s.lane.status = .absent) :
    s.disableFlow c f =
      (((s.setFlow f ((s.flow f).emptied (.cleared .disabled))).withPool
        (s.pool.released (s.flow f).held)).settleGroupOf f).answered c .done 0 [] := by
  rw [← State.stopFlow_eq, ← State.succeed_eq]
  unfold State.disableFlow
  split
  · next hst => simp [hst, FlowState.enabled] at h
  · next hst hlane => simp [hst, hlane] at hstops
  · next hst hlane => simp [hst, hlane] at hstops
  · rfl

theorem State.disableFlow_drains {m : DrainMode}
    (h : (s.flow f).rt.state = .playing ∧ m = .playing ∨ (s.flow f).rt.state = .holding ∧ m = .holding)
    (hlane : s.lane.status = .present) :
    s.disableFlow c f =
      ((s.setFlow f { s.flow f with rt := (s.flow f).rt.toDraining m }).settleGroupOf f).withMgmt
        { s.mgmt with deferred := some f } := by
  have hdrain : s.disableFlow c f = s.startDrain f m := by
    obtain ⟨hst, rfl⟩ | ⟨hst, rfl⟩ := h <;> simp only [State.disableFlow, hst, hlane]
  rw [hdrain, State.startDrain, State.mgmt_settleGroupOf]
  rfl

end

theorem exec_flowDisable {s : State} {c : QueuedCommand} (h : s.inTurn c) (hc : c.code = 0x05) (hl : c.length = 1)
    (hh : s.mgmt.claim.holder = some c.origin) :
    exec .flowDisable s = .next ((s.reloaded c).withFlow c ((s.reloaded c).disableFlow c)) :=
  congrArg Host.Outcome.next (State.execute_passes s true _ h hc hl hh)

/-- The groups after an execution has changed flow `f` so that it plays and holds no more (R82). -/
theorem State.groupsAfterLoss_reloaded {s : State} {f : FlowIx} (c : QueuedCommand) {x : Flow} (p : Pool)
    (hrecord : x.record = (s.flow f).record) (hleft : x.rt.state.playsOrHolds = false) :
    s.groupsAfterLoss ((((s.reloaded c).setFlow f x).withPool p).settleGroupOf f) f := by
  refine s.groupsAfterLoss_settle _ f (fun g => by simp) (fun y hy => ?_) ?_ ?_
  · rw [State.flow_withPool, State.flow_setFlow_ne _ _ hy, State.flow_reloaded]
  · simpa using hrecord
  · simpa using hleft

/-- Settles O54: the flow's state and the lane clock name the effect, and the groups are settled as the flow stops to
play and hold. -/
theorem flowDisableDisablesOrDrains : Obligations.FlowDisableDisablesOrDrains := by
  unfold Obligations.FlowDisableDisablesOrDrains
  intro s c hturn hcode hlen hholder r
  rw [exec_flowDisable hturn hcode hlen hholder]
  refine ⟨fun hix => congrArg _ (State.withFlow_badIndex _ _ hix), fun f hf => ?_⟩
  rw [State.withFlow_flow _ _ hf]
  have hflow (y : FlowIx) : r.flow y = s.flow y := State.flow_reloaded s c y
  have hlane : r.lane = s.lane := State.lane_reloaded s c
  refine ⟨fun hst => ?disabled, fun henabled hstops => ?stops, fun m hst hclock => ?drains⟩
  case disabled => exact congrArg _ (State.disableFlow_disabled c (by rwa [hflow]))
  case stops =>
    refine ⟨_, congrArg _ (State.disableFlow_stops c (by rwa [hflow]) (by rwa [hflow, hlane])), ?_⟩
    rw [hflow]
    have hgroups := State.groupsAfterLoss_reloaded (x := (s.flow f).emptied (.cleared .disabled)) c
      (r.pool.released (s.flow f).held) rfl rfl
    refine ⟨by simp [Runtime.cleared], fun y hy => ?_, by simp, hgroups, by simp, by simp,
      State.ring_answered_congr _ _ _ _ (by simp [r]), State.mgmt_answered_congr _ _ _ _ (by simp [r]), by simp⟩
    simpa [hflow] using State.flow_setFlow_ne r _ hy
  case drains =>
    refine ⟨_, congrArg _ (State.disableFlow_drains c (by rwa [hflow]) (by rwa [hlane])), ?_⟩
    rw [hflow]
    have hgroups := State.groupsAfterLoss_reloaded (x := { s.flow f with rt := (s.flow f).rt.toDraining m }) c r.pool
      rfl rfl
    refine ⟨by simp [Runtime.toDraining], fun y hy => ?_, by simp, hgroups, by simp, by simp, by simp,
      by simp [r], by simp⟩
    simpa [hflow] using State.flow_setFlow_ne r _ hy

end Sys2Proof.Machine
end

section
/-! GROUP_SET (R94): the checks of the four settings in order, and what is stored. -/

namespace Sys2Proof.Machine

/-! ### The four checks (R94) -/

section
variable {c : QueuedCommand}

theorem groupFault_pilot (hp : ¬ ((c.param 1).toNat < 48 ∨ (c.param 1).toNat = 255)) : groupFault c = some 1 := by
  simp only [groupFault, firstFailing, decide_eq_true_iff, if_neg hp]

section
variable (hp : (c.param 1).toNat < 48 ∨ (c.param 1).toNat = 255)
include hp

theorem groupFault_target (ht : ¬ (1 ≤ (c.param 2).toNat ∧ (c.param 2).toNat ≤ 32)) : groupFault c = some 2 := by
  simp only [groupFault, firstFailing, decide_eq_true_iff, if_pos hp, if_neg ht]

variable (ht : 1 ≤ (c.param 2).toNat ∧ (c.param 2).toNat ≤ 32)
include ht

theorem groupFault_hysteresis (hy : ¬ (c.param 3).toNat ≤ 8) : groupFault c = some 3 := by
  simp only [groupFault, firstFailing, decide_eq_true_iff, if_pos hp, if_pos ht, if_neg hy]

variable (hy : (c.param 3).toNat ≤ 8)
include hy

theorem groupFault_interval (hi : ¬ (1 ≤ (c.param 4).toNat ∧ (c.param 4).toNat ≤ 64)) : groupFault c = some 4 := by
  simp only [groupFault, firstFailing, decide_eq_true_iff, if_pos hp, if_pos ht, if_pos hy, if_neg hi]

theorem groupFault_eq_none (hi : 1 ≤ (c.param 4).toNat ∧ (c.param 4).toNat ≤ 64) : groupFault c = none := by
  simp only [groupFault, firstFailing, decide_eq_true_iff, if_pos hp, if_pos ht, if_pos hy, if_pos hi]

end

end

/-! ### The command -/

section
variable {s : State} {c : QueuedCommand} (h : s.inTurn c) (hc : c.code = 0x07) (hl : c.length = 5)
  (hh : s.mgmt.claim.holder = some c.origin)
include h hc hl hh

theorem exec_groupSet_badIndex (hix : 8 ≤ (c.param 0).toNat) :
    exec .groupSet s = .next ((s.reloaded c).answered c .badIndex 0 []) := by
  refine congrArg Host.Outcome.next ((State.execute_passes s true _ h hc hl hh).trans ?_)
  simp only [(byteGroup_eq_none_iff _).2 hix, State.refuse_eq]

theorem exec_groupSet_invalidField {id : Nat} (hix : (c.param 0).toNat < 8) (hf : groupFault c = some id) :
    exec .groupSet s = .next ((s.reloaded c).answered c .invalidField (natByte id) []) := by
  refine congrArg Host.Outcome.next ((State.execute_passes s true _ h hc hl hh).trans ?_)
  have hg : byteGroup (c.param 0) = some ⟨(c.param 0).toNat, hix⟩ := (byteGroup_eq_some_iff _ _).2 rfl
  simp only [hg, hf, State.refuse_eq]

theorem exec_groupSet_done {g : GroupIx} (hix : (c.param 0).toNat = g.val) (hf : groupFault c = none) :
    exec .groupSet s =
      .next (((s.reloaded c).setGroup g ((s.group g).withSettings c)).answered c .done 0 []) := by
  refine congrArg Host.Outcome.next ((State.execute_passes s true _ h hc hl hh).trans ?_)
  simp only [(byteGroup_eq_some_iff _ _).2 hix, hf, State.group_reloaded, State.succeed_eq]

end

/-- Settles O50: the first check that fails names the answer, and a GROUP_SET that passes stores its settings with the
interval count at 0. -/
theorem groupSetStoresSettings : Obligations.GroupSetStoresSettings := by
  unfold Obligations.GroupSetStoresSettings
  intro s c hturn hcode hlen hholder r p pilotOk targetOk hysteresisOk intervalOk
  have refused {id : Nat} (hix : p 0 < 8) (hf : groupFault c = some id) :
      exec .groupSet s = .next (r.answered c .invalidField (natByte id) []) :=
    exec_groupSet_invalidField hturn hcode hlen hholder hix hf
  refine ⟨fun hix => exec_groupSet_badIndex hturn hcode hlen hholder hix,
    fun hix hp => refused hix (groupFault_pilot hp),
    fun hix hp ht => refused hix (groupFault_target hp ht),
    fun hix hp ht hy => refused hix (groupFault_hysteresis hp ht hy),
    fun hix hp ht hy hi => refused hix (groupFault_interval hp ht hy hi), fun g hix hp ht hy hi => ?stored⟩
  case stored =>
    refine ⟨byteFlow (c.param 1), fun hnone => byteFlow_eq_none ?_, fun f hf => byteFlow_eq_some hf,
      exec_groupSet_done hturn hcode hlen hholder hix (groupFault_eq_none hp ht hy hi)⟩
    have h255 : (c.param 1).toNat = 255 := hnone
    omega

end Sys2Proof.Machine
end


section
/-! The part of the Group Slip Controller in its reference's boundary (R86 to R89): the measurement, the
resynchronisation and the aligned joins of several members. -/

namespace Sys2Proof.Machine

/-! ### One operation for each flow of a list -/

section
variable {op : State → FlowIx → State}

/-- An operation that changes its own flow alone, and that by the flow alone, changes each flow of a list once. -/
theorem State.flow_foldl {F : Flow → Flow}
    (hop : ∀ s f x, (op s f).flow x = if x = f then F (s.flow f) else s.flow x) {l : List FlowIx} (hl : l.Nodup)
    (s : State) (x : FlowIx) : (l.foldl op s).flow x = if x ∈ l then F (s.flow x) else s.flow x := by
  induction l generalizing s with
  | nil => simp
  | cons y ys ih =>
    obtain ⟨hy, hys⟩ := List.nodup_cons.1 hl
    rw [List.foldl_cons, ih hys, hop]
    by_cases hxy : x = y
    · simp [hxy, hy]
    · simp [hxy]

/-- What each operation leaves, all of them leave. -/
theorem State.foldl_keeps {α : Type} (part : State → α) (hop : ∀ s f, part (op s f) = part s) (l : List FlowIx)
    (s : State) : part (l.foldl op s) = part s := by
  induction l generalizing s with
  | nil => rfl
  | cons y ys ih => exact (ih (op s y)).trans (hop s y)

end

theorem nodup_allFlows : allFlows.Nodup := List.nodup_finRange 48

/-- Members picked by a property of enabled states are picked by the group of their record alone (R81). -/
theorem State.members_filter_eq (s : State) (g : GroupIx) {p : FlowState → Bool} {q : FlowIx → Bool}
    (hp : ∀ x, p x = true → x.enabled = true)
    (hq : ∀ f, q f = true ↔ (s.flow f).record.group = some g ∧ p (s.flow f).rt.state = true) :
    (s.members g).filter (fun f => p (s.flow f).rt.state) = allFlows.filter q := by
  rw [State.members, List.filter_filter]
  refine List.filter_congr fun f _ => ?_
  rw [Bool.eq_iff_iff, hq, Bool.and_eq_true, State.isMember, Bool.and_eq_true, beq_iff_eq]
  exact ⟨fun ⟨hs, _, hg⟩ => ⟨hg, hs⟩, fun ⟨hg, hs⟩ => ⟨hs, hp _ hs, hg⟩⟩

/-! ### The resynchronisation (R88) -/

theorem FlowState.timed_iff (x : FlowState) :
    x.timed = true ↔ x = .priming ∨ x = .ready ∨ x = .playing ∨ x = .holding := by
  cases x <;> simp [FlowState.timed]

theorem FlowState.enabled_of_timed (x : FlowState) (h : x.timed = true) : x.enabled = true := by
  obtain rfl | rfl | rfl | rfl := x.timed_iff.1 h <;> rfl

/-- What a resynchronisation does to one timed member: a flush, and the entry into IDLE (R40, Table 4-4). -/
def State.flushToIdle (s : State) (f : FlowIx) : State := (s.flush f).setRt f (.cleared .idle)

theorem State.flushToIdle_eq (s : State) (f : FlowIx) :
    s.flushToIdle f =
      (s.setFlow f ((s.flow f).emptied (.cleared .idle))).withPool (s.pool.released (s.flow f).held) := by
  simp [State.flushToIdle, State.flush_eq, State.setRt_eq, Flow.emptied]

theorem State.flow_flushToIdle (s : State) (f x : FlowIx) :
    (s.flushToIdle f).flow x = if x = f then (s.flow f).emptied (.cleared .idle) else s.flow x := by
  rw [State.flushToIdle_eq, State.flow_withPool, State.flow_setFlow]

theorem State.group_flushToIdle (s : State) (f : FlowIx) (g : GroupIx) : (s.flushToIdle f).group g = s.group g := by
  rw [State.flushToIdle_eq]; rfl

theorem State.notice_flushToIdle (s : State) (f : FlowIx) : (s.flushToIdle f).notice = s.notice := by
  rw [State.flushToIdle_eq]; rfl

/-- The members a resynchronisation flushes. -/
def State.timedMembers (s : State) (g : GroupIx) : List FlowIx :=
  (s.members g).filter fun f => (s.flow f).rt.state.timed

theorem State.nodup_timedMembers (s : State) (g : GroupIx) : (s.timedMembers g).Nodup :=
  (nodup_allFlows.filter _).filter _

theorem State.resync_eq (s : State) (g : GroupIx) :
    s.resync g =
      (((s.timedMembers g).foldl State.flushToIdle s).setGroup g ((s.group g).cleared .forming)).withNotice
        (s.notice.take { kind := .groupResync, subject := .group g, detail := 0, dest := none }) := by
  have hgroup := State.foldl_keeps (State.group · g) (fun t f => State.group_flushToIdle t f g) (s.timedMembers g) s
  have hnotice := State.foldl_keeps State.notice State.notice_flushToIdle (s.timedMembers g) s
  rw [← hgroup, ← hnotice]
  rfl

/-- Releases one after another are one release of their sum: the free count only rises, so the last examination of the
monitor decides (R54). -/
theorem Pool.released_released (p : Pool) (a b : Nat) : (p.released a).released b = p.released (a + b) := by
  unfold Pool.released
  by_cases ha : a = 0
  · simp [ha]
  · by_cases hb : b = 0
    · simp [hb]
    · have harm : p.threshold + 8 ≤ p.free + a → p.threshold + 8 ≤ p.free + a + b := by omega
      simp only [if_neg ha, if_neg hb, if_neg (show a + b ≠ 0 by omega), ← Nat.add_assoc]
      congr 1
      simp only [Bool.or_assoc, ← Bool.decide_or, or_iff_right_of_imp harm]

theorem State.pool_foldl_flushToIdle {l : List FlowIx} (hl : l.Nodup) (s : State) :
    (l.foldl State.flushToIdle s).pool = s.pool.released (l.map fun f => (s.flow f).held).sum := by
  induction l generalizing s with
  | nil => rfl
  | cons y ys ih =>
    obtain ⟨hy, hys⟩ := List.nodup_cons.1 hl
    have hheld : (ys.map fun f => ((s.flushToIdle y).flow f).held) = ys.map fun f => (s.flow f).held :=
      List.map_congr_left fun f hf => by
        rw [State.flow_flushToIdle, if_neg fun hfy : f = y => hy (hfy ▸ hf)]
    rw [List.foldl_cons, ih hys, hheld, State.flushToIdle_eq, State.pool_withPool, Pool.released_released,
      List.map_cons, List.sum_cons]

/-- Flushing one member touches no other, so each is flushed as it was found. -/
theorem State.flow_resync (s : State) (g : GroupIx) (f : FlowIx) :
    (s.resync g).flow f = if f ∈ s.timedMembers g then (s.flow f).emptied (.cleared .idle) else s.flow f := by
  rw [State.resync_eq]
  exact State.flow_foldl (F := (Flow.emptied · (.cleared .idle))) State.flow_flushToIdle (s.nodup_timedMembers g) s f

theorem State.pool_resync (s : State) (g : GroupIx) :
    (s.resync g).pool = s.pool.released ((s.timedMembers g).map fun f => (s.flow f).held).sum := by
  rw [State.resync_eq]
  exact State.pool_foldl_flushToIdle (s.nodup_timedMembers g) s

theorem State.group_resync (s : State) (g k : GroupIx) :
    (s.resync g).group k = if k = g then (s.group g).cleared .forming else s.group k := by
  rw [State.resync_eq, State.group_withNotice, State.group_setGroup,
    State.foldl_keeps (State.group · k) fun t f => State.group_flushToIdle t f k]

theorem State.sameElsewhere_resync (s : State) (g : GroupIx) : s.sameElsewhere (s.resync g) := by
  rw [State.resync_eq]
  refine ⟨State.foldl_keeps State.lane ?_ _ s, State.foldl_keeps State.ring ?_ _ s,
    State.foldl_keeps State.mgmt ?_ _ s, State.foldl_keeps State.choices ?_ _ s,
    State.foldl_keeps State.pending ?_ _ s⟩
  all_goals exact fun t f => by rw [State.flushToIdle_eq]; rfl

/-! ### One join (R39, R89) -/

theorem State.countTimes_eq (s : State) (f : FlowIx) (c : Counter) (n : Nat) :
    s.countTimes f c n =
      (s.setFlow f ((Flow.bump · c)^[n] (s.flow f))).withNotice (s.countTimes f c n).notice := by
  induction n generalizing s with
  | zero => simp [State.countTimes]
  | succ n ih =>
    rw [State.countTimes, ih, State.count_eq, Function.iterate_succ_apply, State.flow_counted_self]
    simp [State.counted]

/-- The flow whose window is re-based to head `h`, the blocks left behind and pushed past counted (R39). -/
def Flow.rebasedTo (fl : Flow) (h : Half) : Flow :=
  let behind := fl.window.leftBehind (seqOffset h fl.window.head)
  let past := fl.window.pushedPast fl.record.depth (seqOffset h fl.window.head)
  (Flow.bump · .beyond)^[past] ((Flow.bump · .late)^[behind]
    { fl with window := fl.window.joined fl.record.depth h, held := fl.held - (behind + past) })

/-- The first part of a join, in the unit: `Flow.rebasedTo`, with the buffers given back and the wraps raised. -/
def State.rebaseTo (s : State) (h : Half) (f : FlowIx) : State :=
  let behind := (s.flow f).window.leftBehind (seqOffset h (s.flow f).window.head)
  let past := (s.flow f).window.pushedPast (s.flow f).record.depth (seqOffset h (s.flow f).window.head)
  (((s.setWindow f ((s.flow f).window.joined (s.flow f).record.depth h)).giveBack f (behind + past)).countTimes f .late
    behind).countTimes f .beyond past

theorem State.rebaseTo_eq (s : State) (h : Half) (f : FlowIx) :
    s.rebaseTo h f =
      ((s.setFlow f ((s.flow f).rebasedTo h)).withPool (s.rebaseTo h f).pool).withNotice (s.rebaseTo h f).notice := by
  rw [State.rebaseTo, State.countTimes_eq, State.countTimes_eq, State.giveBack_eq, State.setWindow_eq]
  simp [Flow.rebasedTo]

/-- The flow that begins at the head its window has: PLAYING where it is HELD, else concealing (R89). -/
def Flow.begun (fl : Flow) : Flow :=
  match fl.window.entryAt 0 with
  | .held b => { fl with rt := fl.rt.toPlaying b.length }
  | _ =>
    { fl.bump .concealed with
      window := fl.window.withEntry 0 .spent, held := fl.held - fl.window.headHeld, rt := fl.rt.toHolding fl.record 1 }

/-- The second part of a join, in the unit: `Flow.begun`, with the raises it makes. -/
def State.beginAtHead (s : State) (f : FlowIx) : State :=
  match (s.flow f).window.entryAt 0 with
  | .held b => (s.setRt f ((s.flow f).rt.toPlaying b.length)).raise (flowStateRaise f .playing)
  | _ => (s.concealNext f 1).raise (flowStateRaise f .holding)

theorem State.beginAtHead_eq (s : State) (f : FlowIx) :
    s.beginAtHead f =
      ((s.setFlow f (s.flow f).begun).withPool (s.beginAtHead f).pool).withNotice (s.beginAtHead f).notice := by
  unfold State.beginAtHead Flow.begun
  cases (s.flow f).window.entryAt 0 with
  | held b => rfl
  | empty | spent => simp only [State.concealNext_eq]; rfl

theorem State.join_eq_beginAtHead (s : State) (h : Half) (f : FlowIx) :
    s.join h f = (s.rebaseTo h f).beginAtHead f := rfl

/-- A join changes its flow, by that flow alone, the pool and the notices. -/
theorem State.join_eq (s : State) (h : Half) (f : FlowIx) :
    s.join h f =
      ((s.setFlow f ((s.flow f).rebasedTo h).begun).withPool (s.join h f).pool).withNotice (s.join h f).notice := by
  have hflow : (s.rebaseTo h f).flow f = (s.flow f).rebasedTo h := by
    rw [State.rebaseTo_eq]; exact State.flow_setFlow_self s f _
  rw [State.join_eq_beginAtHead, State.beginAtHead_eq, hflow, State.rebaseTo_eq]
  simp

theorem State.flow_join (s : State) (h : Half) (f x : FlowIx) :
    (s.join h f).flow x = if x = f then ((s.flow f).rebasedTo h).begun else s.flow x := by
  rw [State.join_eq, State.flow_withNotice, State.flow_withPool, State.flow_setFlow]

theorem State.groups_join (s : State) (h : Half) (f : FlowIx) : (s.join h f).groups = s.groups := by
  rw [State.join_eq]; rfl
theorem State.lane_join (s : State) (h : Half) (f : FlowIx) : (s.join h f).lane = s.lane := by
  rw [State.join_eq]; rfl
theorem State.ring_join (s : State) (h : Half) (f : FlowIx) : (s.join h f).ring = s.ring := by
  rw [State.join_eq]; rfl
theorem State.mgmt_join (s : State) (h : Half) (f : FlowIx) : (s.join h f).mgmt = s.mgmt := by
  rw [State.join_eq]; rfl
theorem State.pending_join (s : State) (h : Half) (f : FlowIx) : (s.join h f).pending = s.pending := by
  rw [State.join_eq]; rfl

/-! ### The joins of several members (R89) -/

/-- The members that wait for a join. -/
def State.readyMembers (s : State) (g : GroupIx) : List FlowIx :=
  (s.members g).filter fun f => (s.flow f).rt.state == .ready

theorem State.nodup_readyMembers (s : State) (g : GroupIx) : (s.readyMembers g).Nodup :=
  (nodup_allFlows.filter _).filter _

theorem State.mem_readyMembers_iff (s : State) (g : GroupIx) (f : FlowIx) :
    f ∈ s.readyMembers g ↔ (s.flow f).record.group = some g ∧ (s.flow f).rt.state = .ready := by
  rw [State.readyMembers, s.members_filter_eq g (p := (· == .ready))
    (q := fun f => decide ((s.flow f).record.group = some g ∧ (s.flow f).rt.state = .ready))]
  · simp [allFlows]
  · intro x hx; rw [beq_iff_eq.1 hx]; rfl
  · simp

theorem State.joinAll_eq (s : State) (g : GroupIx) (h : Half) :
    s.joinAll g h =
      (s.openOrder (s.readyMembers g)).foldl (State.join · h) (s.orderTaken (s.readyMembers g)) := rfl

theorem State.joinAll_of_none {s : State} {g : GroupIx} (h : Half) (hnone : ∀ x, x ∉ s.readyMembers g) :
    s.joinAll g h = s := by
  rw [State.joinAll_eq, List.eq_nil_iff_forall_not_mem.2 hnone]
  rfl

theorem State.joinAll_of_one {s : State} {g : GroupIx} (h : Half) {x : FlowIx}
    (hx : ∀ y, y ∈ s.readyMembers g ↔ y = x) : s.joinAll g h = s.join h x := by
  have hone : s.readyMembers g = [x] := List.perm_singleton.1
    ((List.perm_ext_iff_of_nodup (s.nodup_readyMembers g) (List.nodup_singleton x)).2 (by simpa using hx))
  rw [State.joinAll_eq, hone]
  rfl

/-- Whatever the order, every waiting member joins once, and by itself alone. -/
theorem State.flow_joinAll (s : State) (g : GroupIx) (h : Half) (x : FlowIx) :
    (s.joinAll g h).flow x = if x ∈ s.readyMembers g then ((s.flow x).rebasedTo h).begun else s.flow x := by
  have hperm := s.perm_openOrder (s.readyMembers g)
  rw [State.joinAll_eq, State.flow_foldl (F := fun fl => (fl.rebasedTo h).begun) (fun t f => t.flow_join h f)
    (hperm.nodup_iff.2 (s.nodup_readyMembers g)), State.orderTaken_eq]
  simp only [hperm.mem_iff]
  rfl

/-- What every join leaves, and the taking of an order, all the joins leave. -/
theorem State.joinAll_keeps {α : Type} (part : State → α) (s : State) (g : GroupIx) (h : Half)
    (hjoin : ∀ t f, part (State.join t h f) = part t) (horder : ∀ n, part { s with choices := n } = part s) :
    part (s.joinAll g h) = part s := by
  rw [State.joinAll_eq, State.foldl_keeps part hjoin, State.orderTaken_eq, horder]

/-! ### The boundary of a reference (R86, R87) -/

theorem FlowState.playsOrHolds_iff (x : FlowState) : x.playsOrHolds = true ↔ x = .playing ∨ x = .holding := by
  cases x <;> simp [FlowState.playsOrHolds]

theorem measureStep_eq (contiguous target hysteresis : Nat) :
    measureStep contiguous target hysteresis =
      if contiguous > target + hysteresis then 1
      else if (contiguous : Int) < (target : Int) - hysteresis then -1 else 0 := by
  have hbelow : ((contiguous : Int) < (target : Int) - hysteresis) ↔ contiguous + hysteresis < target := by omega
  simp only [measureStep, gt_iff_lt, hbelow]

section
variable {u : State} {g : GroupIx} {f : FlowIx}

theorem State.referenceBoundary_of_left (hleft : ¬ ((u.flow f).rt.state = .playing ∨ (u.flow f).rt.state = .holding)) :
    u.referenceBoundary g f = u.setGroup g { u.group g with slipDone := false } :=
  if_neg (mt (FlowState.playsOrHolds_iff _).1 hleft)

variable (hplays : (u.flow f).rt.state = .playing ∨ (u.flow f).rt.state = .holding)
include hplays

theorem State.referenceBoundary_of_plays : u.referenceBoundary g f = u.referenceSteps g f :=
  if_pos ((FlowState.playsOrHolds_iff _).2 hplays)

theorem State.referenceBoundary_counts (hcount : (u.group g).count + 1 < (u.group g).interval) :
    u.referenceBoundary g f =
      (u.setGroup g { u.group g with slipDone := false, count := (u.group g).count + 1 }).joinAll g
        (u.flow f).window.head := by
  rw [State.referenceBoundary_of_plays hplays, State.referenceSteps, if_neg hcount.not_ge]

variable {step : Int}
  (hstep : measureStep (u.flow f).window.contiguous (u.group g).target (u.group g).hysteresis = step)
  (hcount : (u.group g).interval ≤ (u.group g).count + 1)
include hstep hcount

theorem State.referenceBoundary_measures (hdebt : ¬ ((u.group g).debt + step < -8 ∨ 8 < (u.group g).debt + step)) :
    u.referenceBoundary g f =
      (u.setGroup g { u.group g with slipDone := false, count := 0, debt := (u.group g).debt + step }).joinAll g
        (u.flow f).window.head := by
  subst hstep
  rw [State.referenceBoundary_of_plays hplays, State.referenceSteps, if_pos hcount, if_neg hdebt]

theorem State.referenceBoundary_resyncs (hdebt : (u.group g).debt + step < -8 ∨ 8 < (u.group g).debt + step) :
    u.referenceBoundary g f = u.resync g := by
  subst hstep
  rw [State.referenceBoundary_of_plays hplays, State.referenceSteps, if_pos hcount, if_pos hdebt]

end

/-- Settles O28: the boundary's four cases; a resynchronisation, member by member; and the joins, each of which changes
its own flow by that flow alone, so that their order does not matter to the flows. -/
theorem referenceBoundaryMeasures : Obligations.ReferenceBoundaryMeasures := by
  unfold Obligations.ReferenceBoundaryMeasures
  refine ⟨fun u g f => ?boundary, fun u g => ?resync, fun u g h => ?joins⟩
  case boundary =>
    intro gr c _ step plays
    have hstep : measureStep c gr.target gr.hysteresis = step := measureStep_eq _ _ _
    exact ⟨State.referenceBoundary_of_left, State.referenceBoundary_counts,
      fun hplays hcount hlow hhigh => State.referenceBoundary_measures hplays hstep hcount
        (not_or.2 ⟨hlow.not_gt, hhigh.not_gt⟩),
      fun hplays hcount hdebt => State.referenceBoundary_resyncs hplays hstep hcount hdebt⟩
  case resync =>
    intro t hit
    have hmembers : u.timedMembers g = allFlows.filter fun f => decide (hit f) :=
      u.members_filter_eq g FlowState.enabled_of_timed fun f => by rw [decide_eq_true_iff, FlowState.timed_iff]
    have hmem (f : FlowIx) : f ∈ u.timedMembers g ↔ hit f := by
      rw [hmembers, List.mem_filter, decide_eq_true_iff]
      exact and_iff_right (List.mem_finRange f)
    refine ⟨fun f hf => ?_, fun f hf => ?_, ?_, fun k hk => ?_, ?_, ?_, u.sameElsewhere_resync g⟩
    · exact (u.flow_resync g f).trans (if_pos ((hmem f).2 hf))
    · exact (u.flow_resync g f).trans (if_neg (mt (hmem f).1 hf))
    · exact (u.group_resync g g).trans (if_pos rfl)
    · exact (u.group_resync g k).trans (if_neg hk)
    · rw [← hmembers]; exact u.pool_resync g
    · exact congrArg State.notice (u.resync_eq g)
  case joins =>
    intro t waits
    have hmem (x : FlowIx) : x ∈ u.readyMembers g ↔ waits x := u.mem_readyMembers_iff g x
    refine ⟨fun hnone => ?_, fun x hx hall => ?_, fun x hx => ?_, fun x hx => ?_, ?_⟩
    · exact State.joinAll_of_none h fun x => mt (hmem x).1 (hnone x)
    · exact State.joinAll_of_one h fun y => (hmem y).trans ⟨hall y, fun hyx => hyx ▸ hx⟩
    · rw [State.flow_join, if_pos rfl]
      exact (u.flow_joinAll g h x).trans (if_pos ((hmem x).2 hx))
    · exact (u.flow_joinAll g h x).trans (if_neg (mt (hmem x).1 hx))
    · exact ⟨u.joinAll_keeps State.groups g h (fun t f => t.groups_join h f) fun _ => rfl,
        u.joinAll_keeps State.lane g h (fun t f => t.lane_join h f) fun _ => rfl,
        u.joinAll_keeps State.ring g h (fun t f => t.ring_join h f) fun _ => rfl,
        u.joinAll_keeps State.mgmt g h (fun t f => t.mgmt_join h f) fun _ => rfl,
        u.joinAll_keeps State.pending g h (fun t f => t.pending_join h f) fun _ => rfl⟩

end Sys2Proof.Machine
end

section
/-! LANE_SET, MAP_GET and MAP_SET (R102 to R106): the bytes that name a lane, a position and a channel, the entry a
MAP_SET carries, and the layout of a MAP_GET answer. -/

namespace Sys2Proof.Machine

/-! ### Bytes that name a lane, a position, a channel or a setting -/

section
variable {n k : Nat}

/-- An index read with a check of its range is the number itself. -/
theorem checkedFin_eq_some {i : Fin n} (h : k = i.val) :
    (if h : k < n then some (⟨k, h⟩ : Fin n) else none) = some i := by
  subst h
  exact dif_pos i.isLt

theorem checkedFin_eq_none (h : n ≤ k) : (if h : k < n then some (⟨k, h⟩ : Fin n) else none) = none :=
  dif_neg h.not_gt

end

theorem byteLane_eq_some {b : Byte} {l : Fin 4} (h : b.toNat = l.val) : byteLane b = some l := checkedFin_eq_some h

theorem byteLane_eq_none {b : Byte} (h : 4 ≤ b.toNat) : byteLane b = none := checkedFin_eq_none h

theorem bytePosition_eq_some {b : Byte} {q : Fin 16} (h : b.toNat = q.val) : bytePosition b = some q :=
  checkedFin_eq_some h

theorem bytePosition_eq_none {b : Byte} (h : 16 ≤ b.toNat) : bytePosition b = none := checkedFin_eq_none h

theorem byteChannel_eq_some {b : Byte} {ch : Fin 8} (h : b.toNat = ch.val) : byteChannel b = some ch :=
  checkedFin_eq_some h

theorem byteChannel_eq_none {b : Byte} (h : 8 ≤ b.toNat) : byteChannel b = none := checkedFin_eq_none h

theorem isBit_eq_true {b : Byte} (h : b.toNat < 2) : isBit b = true := decide_eq_true (Nat.le_of_lt_succ h)

theorem isBit_eq_false {b : Byte} (h : 2 ≤ b.toNat) : isBit b = false := decide_eq_false (by omega)

/-- An on or off setting read as a number (R173). -/
theorem byte_beq_one (b : Byte) : (b == 1) = decide (b.toNat = 1) := by
  rw [Bool.eq_iff_iff, beq_iff_eq, decide_eq_true_iff, BitVec.toNat_eq]
  rfl

/-! ### LANE_SET (R104, R106) -/

section
variable {s : State} {c : QueuedCommand} (h : s.inTurn c) (hc : c.code = 0x0B) (hl : c.length = 3)
  (hh : s.mgmt.claim.holder = some c.origin)
include h hc hl hh

theorem exec_laneSet_badIndex (hix : 4 ≤ (c.param 0).toNat) :
    exec .laneSet s = .next ((s.reloaded c).answered c .badIndex 0 []) := by
  refine congrArg Host.Outcome.next ((State.execute_passes s true _ h hc hl hh).trans ?_)
  simp only [byteLane_eq_none hix, State.refuse_eq]

section
variable {l : Fin 4} (hix : (c.param 0).toNat = l.val)
include hix

theorem exec_laneSet_badEnable (hen : 2 ≤ (c.param 1).toNat) :
    exec .laneSet s = .next ((s.reloaded c).answered c .invalidField 1 []) := by
  refine congrArg Host.Outcome.next ((State.execute_passes s true _ h hc hl hh).trans ?_)
  simp only [byteLane_eq_some hix, isBit_eq_false hen, Bool.not_false, if_true, State.refuse_eq]

variable (hen : (c.param 1).toNat < 2)
include hen

theorem exec_laneSet_badMute (hmu : 2 ≤ (c.param 2).toNat) :
    exec .laneSet s = .next ((s.reloaded c).answered c .invalidField 2 []) := by
  refine congrArg Host.Outcome.next ((State.execute_passes s true _ h hc hl hh).trans ?_)
  simp only [byteLane_eq_some hix, isBit_eq_true hen, isBit_eq_false hmu, Bool.not_true, Bool.not_false,
    Bool.false_eq_true, if_false, if_true, State.refuse_eq]

theorem exec_laneSet_done (hmu : (c.param 2).toNat < 2) :
    exec .laneSet s =
      .next (((s.reloaded c).withLane { s.lane with
        lanes := s.lane.lanes.set l.val
          { enable := decide ((c.param 1).toNat = 1), mute := decide ((c.param 2).toNat = 1) } }).answered
        c .done 0 []) := by
  refine congrArg Host.Outcome.next ((State.execute_passes s true _ h hc hl hh).trans ?_)
  simp only [byteLane_eq_some hix, isBit_eq_true hen, isBit_eq_true hmu, Bool.not_true, Bool.false_eq_true, if_false,
    State.lane_reloaded, byte_beq_one, State.succeed_eq]

end

end

/-! ### MAP_GET (R106) -/

/-- Pieces of `n` bytes each, one after another: byte `j` of piece `i`. -/
theorem byteAt_flatMap {α : Type} {f : α → List Byte} {n j : Nat} (hf : ∀ a, (f a).length = n) (hj : j < n) (l : List α)
    {i : Nat} (hi : i < l.length) : byteAt (l.flatMap f) (j + n * i) = byteAt (f l[i]) j := by
  induction l generalizing i with
  | nil => exact absurd hi (Nat.not_lt_zero i)
  | cons a l ih =>
    rw [List.flatMap_cons]
    cases i with
    | zero => exact List.getD_append _ _ _ _ ((hf a).symm ▸ hj)
    | succ i =>
      have hpast : (f a).length ≤ j + n * (i + 1) := by rw [hf, Nat.mul_succ]; omega
      have hrest : j + n * (i + 1) - (f a).length = j + n * i := by rw [hf, Nat.mul_succ]; omega
      rw [byteAt, List.getD_append_right _ _ _ _ hpast, hrest]
      exact ih (Nat.lt_of_succ_lt_succ hi)

theorem length_mapEntryBytes (e : MapEntry) : (mapEntryBytes e).length = 3 := by cases e <;> rfl

section
variable (s : State) (l : Fin 4)

@[simp] theorem State.length_laneEntries : (s.laneEntries l).length = 16 := by simp [State.laneEntries]

theorem State.getElem_laneEntries (p : Fin 16) :
    (s.laneEntries l)[p.val]'(by simp) = s.lane.map[l.val * 16 + p.val] := by simp [State.laneEntries]

theorem State.length_mapData : (s.mapData l).length = 50 := by
  simp [State.mapData, List.length_flatMap, length_mapEntryBytes]

/-- The entry of position `p` stands in the three bytes from byte `2 + 3 * p` on (Table 11-4). -/
theorem State.byteAt_mapData {p : Fin 16} {e : MapEntry} (he : s.lane.map[l.val * 16 + p.val] = e) (j : Fin 3) :
    byteAt (s.mapData l) (2 + j.val + 3 * p.val) = byteAt (mapEntryBytes e) j.val := by
  have hflags : 2 + j.val + 3 * p.val = (j.val + 3 * p.val) + 2 := by omega
  rw [hflags, ← he, ← s.getElem_laneEntries l p]
  exact byteAt_flatMap length_mapEntryBytes j.isLt (s.laneEntries l) _

@[simp] theorem State.mapData_reloaded (c : QueuedCommand) : (s.reloaded c).mapData l = s.mapData l := by
  simp only [State.mapData, State.laneEntries, State.lane_reloaded]

end

/-- The execution of a command that needs no claim, of the right length, goes on to the command's own checks (R135). -/
theorem State.execute_reads (s : State) {code : Byte} {length : Nat} (own : QueuedCommand → State → State)
    {c : QueuedCommand} (h : s.inTurn c) (hc : c.code = code) (hl : c.length = length) :
    s.execute (hasCode code) length false own = own c (s.reloaded c) := by
  rw [State.execute_eq s _ _ _ _ h (by simp [hasCode, hc]), if_neg (not_not.2 hl),
    if_neg fun hclaim => nomatch hclaim.1]

section
variable {s : State} {c : QueuedCommand} (h : s.inTurn c) (hc : c.code = 0x0A) (hl : c.length = 1)
include h hc hl

theorem exec_mapGet_badIndex (hix : 4 ≤ (c.param 0).toNat) :
    exec .mapGet s = .next ((s.reloaded c).answered c .badIndex 0 []) := by
  refine congrArg Host.Outcome.next ((State.execute_reads s _ h hc hl).trans ?_)
  simp only [byteLane_eq_none hix, State.refuse_eq]

theorem exec_mapGet_done {l : Fin 4} (hix : (c.param 0).toNat = l.val) :
    exec .mapGet s = .next ((s.reloaded c).answered c .done 0 (s.mapData l)) := by
  refine congrArg Host.Outcome.next ((State.execute_reads s _ h hc hl).trans ?_)
  simp only [byteLane_eq_some hix, State.complete_eq, State.mapData_reloaded]

end

/-! ### MAP_SET (R102, R105) -/

section
variable {c : QueuedCommand}

theorem mapSetEntry_silence (hk : (c.param 2).toNat = 0) : mapSetEntry c = .ok .silence :=
  if_pos (BitVec.eq_of_toNat_eq hk)

theorem mapSetEntry_badKind (hk : 2 ≤ (c.param 2).toNat) : mapSetEntry c = .error 1 := by
  have h0 : c.param 2 ≠ 0 := by bv_omega
  have h1 : c.param 2 ≠ 1 := by bv_omega
  rw [mapSetEntry, if_neg h0, if_neg h1]

section
variable (hk : (c.param 2).toNat = 1)
include hk

theorem mapSetEntry_badFlow (hf : 48 ≤ (c.param 3).toNat) : mapSetEntry c = .error 2 := by
  have h1 : c.param 2 = 1 := BitVec.eq_of_toNat_eq hk
  simp [mapSetEntry, h1, byteFlow_eq_none hf]

variable {f : FlowIx} (hf : (c.param 3).toNat = f.val)
include hf

theorem mapSetEntry_badChannel (hch : 8 ≤ (c.param 4).toNat) : mapSetEntry c = .error 3 := by
  have h1 : c.param 2 = 1 := BitVec.eq_of_toNat_eq hk
  simp [mapSetEntry, h1, byteFlow_eq_some hf, byteChannel_eq_none hch]

theorem mapSetEntry_source {ch : Fin 8} (hch : (c.param 4).toNat = ch.val) : mapSetEntry c = .ok (.source f ch) := by
  have h1 : c.param 2 = 1 := BitVec.eq_of_toNat_eq hk
  simp [mapSetEntry, h1, byteFlow_eq_some hf, byteChannel_eq_some hch]

end

end

section
variable {s : State} {c : QueuedCommand} (h : s.inTurn c) (hc : c.code = 0x09) (hl : c.length = 5)
  (hh : s.mgmt.claim.holder = some c.origin)
include h hc hl hh

theorem exec_mapSet_badIndex (hix : 4 ≤ (c.param 0).toNat ∨ 16 ≤ (c.param 1).toNat) :
    exec .mapSet s = .next ((s.reloaded c).answered c .badIndex 0 []) := by
  refine congrArg Host.Outcome.next ((State.execute_passes s true _ h hc hl hh).trans ?_)
  obtain hlane | hposition := hix
  · simp only [byteLane_eq_none hlane, State.refuse_eq]
  · cases hlane : byteLane (c.param 0) <;> simp only [bytePosition_eq_none hposition, State.refuse_eq]

section
variable {l : Fin 4} {q : Fin 16} (hlane : (c.param 0).toNat = l.val) (hposition : (c.param 1).toNat = q.val)
include hlane hposition

theorem exec_mapSet_invalidField {detail : Byte} (he : mapSetEntry c = .error detail) :
    exec .mapSet s = .next ((s.reloaded c).answered c .invalidField detail []) := by
  refine congrArg Host.Outcome.next ((State.execute_passes s true _ h hc hl hh).trans ?_)
  simp only [byteLane_eq_some hlane, bytePosition_eq_some hposition, he, State.refuse_eq]

theorem exec_mapSet_done {e : MapEntry} (he : mapSetEntry c = .ok e) :
    exec .mapSet s = .next (((s.reloaded c).withLane (s.lane.setMap l q e)).answered c .done 0 []) := by
  refine congrArg Host.Outcome.next ((State.execute_passes s true _ h hc hl hh).trans ?_)
  simp only [byteLane_eq_some hlane, bytePosition_eq_some hposition, he, State.lane_reloaded, State.succeed_eq]

end

end

/-- Settles O49: the first check that fails names the answer; a LANE_SET or MAP_SET that passes stores what it carries,
and a MAP_GET answers the two settings and, three bytes each, the 16 entries. -/
theorem mapAndLaneCommands : Obligations.MapAndLaneCommands := by
  unfold Obligations.MapAndLaneCommands
  refine ⟨⟨fun s c hturn hcode hlen hholder => ?laneSet, fun s c hturn hcode hlen => ?mapGet⟩,
    fun s c hturn hcode hlen hholder => ?mapSet⟩
  case laneSet =>
    intro r p
    exact ⟨exec_laneSet_badIndex hturn hcode hlen hholder,
      fun hix => exec_laneSet_badEnable (l := ⟨p 0, hix⟩) hturn hcode hlen hholder rfl,
      fun hix => exec_laneSet_badMute (l := ⟨p 0, hix⟩) hturn hcode hlen hholder rfl,
      fun l => exec_laneSet_done hturn hcode hlen hholder⟩
  case mapGet =>
    exact ⟨exec_mapGet_badIndex hturn hcode hlen, fun l hix =>
      ⟨s.mapData l, exec_mapGet_done hturn hcode hlen hix, s.length_mapData l, rfl, rfl, fun p =>
        ⟨fun he => ⟨s.byteAt_mapData l he 0, s.byteAt_mapData l he 1, s.byteAt_mapData l he 2⟩,
          fun f ch he => ⟨s.byteAt_mapData l he 0, s.byteAt_mapData l he 1, s.byteAt_mapData l he 2⟩⟩⟩⟩
  case mapSet =>
    intro r p stored
    refine ⟨exec_mapSet_badIndex hturn hcode hlen hholder, fun l q hlane hposition => ?_⟩
    have refused {detail : Byte} (he : mapSetEntry c = .error detail) :
        exec .mapSet s = .next (r.answered c .invalidField detail []) :=
      exec_mapSet_invalidField hturn hcode hlen hholder hlane hposition he
    have done {e : MapEntry} (he : mapSetEntry c = .ok e) : exec .mapSet s = .next (stored l q e) :=
      exec_mapSet_done hturn hcode hlen hholder hlane hposition he
    exact ⟨fun hk => refused (mapSetEntry_badKind hk), fun hk hf => refused (mapSetEntry_badFlow hk hf),
      fun hk hf hch => refused (mapSetEntry_badChannel (f := ⟨p 3, hf⟩) hk rfl hch),
      fun hk => done (mapSetEntry_silence hk), fun f ch hk hf hch => done (mapSetEntry_source hk hf hch)⟩

end Sys2Proof.Machine
end

section
/-! ROLLCALL (R121 to R123): bytes replaced in a frame, what forwarding makes of a header, the address a mode gives, and
what becomes of the unit and of the frame. -/

namespace Sys2Proof.Machine

/-! ### Bytes replaced in a frame -/

theorem byteAt_set_self {bs : List Byte} {i : Nat} (b : Byte) (h : i < bs.length) : byteAt (bs.set i b) i = b := by
  simp [byteAt, List.getD_eq_getElem?_getD, h]

theorem byteAt_set_ne (bs : List Byte) {i j : Nat} (b : Byte) (h : i ≠ j) : byteAt (bs.set i b) j = byteAt bs j := by
  simp [byteAt, List.getD_eq_getElem?_getD, List.getElem?_set_ne h]

theorem set_byteAt (bs : List Byte) (i : Nat) : bs.set i (byteAt bs i) = bs := by
  by_cases h : i < bs.length
  · simp [byteAt, List.getD_eq_getElem?_getD, h]
  · exact List.set_eq_of_length_le (Nat.le_of_not_lt h)

@[simp] theorem length_withRollcall (bs : List Byte) (next : Byte) (count : Half) :
    (withRollcall bs next count).length = bs.length := by simp [withRollcall]

theorem byteAt_withRollcall_of_lt (bs : List Byte) (next : Byte) (count : Half) {j : Nat} (h : j < 5) :
    byteAt (withRollcall bs next count) j = byteAt bs j := by
  rw [withRollcall, byteAt_set_ne _ _ (by omega), byteAt_set_ne _ _ (by omega), byteAt_set_ne _ _ (by omega)]

theorem byteAt_withRollcall_next {bs : List Byte} (next : Byte) (count : Half) (h : 8 ≤ bs.length) :
    byteAt (withRollcall bs next count) 5 = next := by
  rw [withRollcall, byteAt_set_ne _ _ (by decide), byteAt_set_ne _ _ (by decide), byteAt_set_self _ (by omega)]

theorem halfAt_withRollcall_count {bs : List Byte} (next : Byte) (count : Half) (h : 8 ≤ bs.length) :
    halfAt (withRollcall bs next count) 6 = count := by
  have hhigh : byteAt (withRollcall bs next count) 6 = count.extractLsb' 8 8 := by
    rw [withRollcall, byteAt_set_ne _ _ (by decide), byteAt_set_self _ (by simp; omega)]
  have hlow : byteAt (withRollcall bs next count) 7 = count.extractLsb' 0 8 := by
    rw [withRollcall, byteAt_set_self _ (by simp; omega)]
  rw [halfAt, hhigh, hlow]
  exact BitVec.extractLsb'_append_extractLsb'

/-- A ROLLCALL frame whose own next address and count are written into it stays as it is. -/
theorem withRollcall_self (bs : List Byte) : withRollcall bs (byteAt bs 5) (halfAt bs 6) = bs := by
  have hhigh : (halfAt bs 6).extractLsb' 8 8 = byteAt bs 6 := BitVec.extractLsb'_append_eq_left
  have hlow : (halfAt bs 6).extractLsb' 0 8 = byteAt bs 7 := BitVec.extractLsb'_append_eq_right
  rw [withRollcall, hhigh, hlow, set_byteAt, set_byteAt, set_byteAt]

/-! ### Forwarding (R117) -/

theorem headerCheck_set_of_le (bs : List Byte) {i : Nat} (b : Byte) (h : 9 ≤ i) :
    headerCheck (bs.set i b) = headerCheck bs := by
  rw [headerCheck, headerCheck, List.take_set_of_le h]

section
variable {bs : List Byte} (h : 10 ≤ bs.length)
include h

/-- Forwarding replaces two bytes: the hop count, and then the header check. -/
theorem forwardFrame_eq_set :
    forwardFrame bs = (bs.set 1 (byteAt bs 1 + 1)).set 9 (headerCheck (bs.set 1 (byteAt bs 1 + 1))) := by
  rw [List.set_eq_take_append_cons_drop, if_pos (by simp; omega), List.drop_set_of_lt (by decide)]
  simp [forwardFrame, withHeaderCheck, headerCheck, List.take_take]

theorem byteAt_forwardFrame {j : Nat} (h1 : j ≠ 1) (h9 : j ≠ 9) : byteAt (forwardFrame bs) j = byteAt bs j := by
  rw [forwardFrame_eq_set h, byteAt_set_ne _ _ h9.symm, byteAt_set_ne _ _ h1.symm]

theorem halfAt_forwardFrame {j : Nat} (hlow : 2 ≤ j) (hhigh : j ≤ 7) :
    halfAt (forwardFrame bs) j = halfAt bs j := by
  rw [halfAt, halfAt, byteAt_forwardFrame h (by omega) (by omega), byteAt_forwardFrame h (by omega) (by omega)]

theorem kindCode_forwardFrame : kindCode (forwardFrame bs) = kindCode bs := by
  rw [kindCode, kindCode, byteAt_forwardFrame h (by decide) (by decide)]

theorem hopCount_forwardFrame (hhop : hopCount bs < 63) : hopCount (forwardFrame bs) = hopCount bs + 1 := by
  have hbyte : byteAt (forwardFrame bs) 1 = byteAt bs 1 + 1 := by
    rw [forwardFrame_eq_set h, byteAt_set_ne _ _ (by decide), byteAt_set_self _ (by omega)]
  unfold hopCount at hhop ⊢
  rw [hbyte]
  bv_omega

theorem headerCheck_forwardFrame : headerCheck (forwardFrame bs) = byteAt (forwardFrame bs) 9 := by
  rw [forwardFrame_eq_set h, headerCheck_set_of_le _ _ (Nat.le_refl 9), byteAt_set_self _ (by simp; omega)]

/-- The header of a forwarded frame is good whatever the check of the frame before it was. -/
theorem goodHeader_forwardFrame (hkind : kindCode bs ≤ 5) (hhop : hopCount bs < 63) :
    goodHeader (forwardFrame bs) = true := by
  have hmax : hopCount bs + 1 ≤ 63 := hhop
  simp [goodHeader, headerCheck_forwardFrame h, kindCode_forwardFrame h, hopCount_forwardFrame h hhop, hkind, hmax]

end

theorem hopCount_le_of_goodHeader {bs : List Byte} (h : goodHeader bs = true) : hopCount bs ≤ 63 := by
  simp only [goodHeader, Bool.and_eq_true, decide_eq_true_eq] at h
  exact h.2

/-! ### The own address (R124) -/

theorem State.setAddress_own (s : State) : s.setAddress s.ring.own = s := if_pos rfl

@[simp] theorem State.own_setAddress (s : State) (a : Addr) : (s.setAddress a).ring.own = a := by
  unfold State.setAddress
  split
  · next h => exact h
  · rfl

theorem State.notice_setAddress (s : State) (a : Addr) :
    (s.setAddress a).notice = if a = s.ring.own then s.notice else s.notice.addressChanged := by
  unfold State.setAddress
  by_cases h : s.ring.own = a
  · rw [if_pos h, if_pos h.symm]
  · rw [if_neg h, if_neg (Ne.symm h)]
    rfl

/-- An address change touches the own address and the notices alone. -/
theorem State.setAddress_unchanged (s : State) (a : Addr) :
    (s.setAddress a).ring.answers = s.ring.answers ∧ (s.setAddress a).flows = s.flows ∧
      (s.setAddress a).pool = s.pool ∧ (s.setAddress a).groups = s.groups ∧ (s.setAddress a).lane = s.lane ∧
      (s.setAddress a).mgmt = s.mgmt := by
  unfold State.setAddress
  split <;> simp

/-- An address that can be handed out is not the one of an unassigned unit. -/
theorem byteAddr_ne_unassigned {n : Byte} (h : n.toNat ≤ 61) : byteAddr n ≠ 63 := by
  intro h63
  have hval : (byteAddr n).toNat = n.toNat := by simp [byteAddr]; omega
  have h63' : (63 : Addr).toNat = 63 := rfl
  rw [h63, h63'] at hval
  omega

/-! ### The modes of a ROLLCALL (R121) -/

theorem handsOut_iff (n : Byte) : handsOut n = true ↔ 1 ≤ n.toNat ∧ n.toNat ≤ 61 := decide_eq_true_iff

/-- RENUMBER (R122). -/
theorem State.rollcall_renumber (s : State) {bs : List Byte} (hmode : byteAt bs 4 = 1) :
    ∃ a next, s.rollcall bs = (s.setAddress a, withRollcall bs next (halfAt bs 6 + 1)) ∧
      (1 ≤ (byteAt bs 5).toNat ∧ (byteAt bs 5).toNat ≤ 61 →
        a = byteAddr (byteAt bs 5) ∧ next = byteAt bs 5 + 1) ∧
      (¬ (1 ≤ (byteAt bs 5).toNat ∧ (byteAt bs 5).toNat ≤ 61) → a = 63 ∧ next = byteAt bs 5) := by
  by_cases hn : 1 ≤ (byteAt bs 5).toNat ∧ (byteAt bs 5).toNat ≤ 61
  · refine ⟨byteAddr (byteAt bs 5), byteAt bs 5 + 1, ?_, fun _ => ⟨rfl, rfl⟩, fun h => absurd hn h⟩
    simp only [State.rollcall, if_pos hmode, if_pos ((handsOut_iff _).2 hn)]
  · refine ⟨63, byteAt bs 5, ?_, fun h => absurd h hn, fun _ => ⟨rfl, rfl⟩⟩
    simp only [State.rollcall, if_pos hmode, if_neg (mt (handsOut_iff _).1 hn)]

/-- FILL_IN (R123): a unit that takes no address keeps its own and forwards the fields as they are. -/
theorem State.rollcall_fillIn (s : State) {bs : List Byte} (hmode : byteAt bs 4 = 2) :
    ∃ a next count, s.rollcall bs = (s.setAddress a, withRollcall bs next count) ∧
      (s.ring.own = 63 ∧ 1 ≤ (byteAt bs 5).toNat ∧ (byteAt bs 5).toNat ≤ 61 →
        a = byteAddr (byteAt bs 5) ∧ next = byteAt bs 5 + 1 ∧ count = halfAt bs 6 + 1) ∧
      (¬ (s.ring.own = 63 ∧ 1 ≤ (byteAt bs 5).toNat ∧ (byteAt bs 5).toNat ≤ 61) →
        a = s.ring.own ∧ next = byteAt bs 5 ∧ count = halfAt bs 6) := by
  have htakes : (!s.assigned && handsOut (byteAt bs 5)) = true ↔
      s.ring.own = 63 ∧ 1 ≤ (byteAt bs 5).toNat ∧ (byteAt bs 5).toNat ≤ 61 := by
    simp [State.assigned, handsOut_iff]
  have hne : ¬ (2 : Byte) = 1 := by decide
  by_cases hn : s.ring.own = 63 ∧ 1 ≤ (byteAt bs 5).toNat ∧ (byteAt bs 5).toNat ≤ 61
  · refine ⟨byteAddr (byteAt bs 5), byteAt bs 5 + 1, halfAt bs 6 + 1, ?_, fun _ => ⟨rfl, rfl, rfl⟩,
      fun h => absurd hn h⟩
    simp only [State.rollcall, hmode, if_neg hne, if_true, if_pos (htakes.2 hn)]
  · refine ⟨s.ring.own, byteAt bs 5, halfAt bs 6, ?_, fun h => absurd h hn, fun _ => ⟨rfl, rfl, rfl⟩⟩
    simp only [State.rollcall, hmode, if_neg hne, if_true, if_neg (mt htakes.1 hn), State.setAddress_own,
      withRollcall_self]

/-- A mode without a meaning (R121). -/
theorem State.rollcall_otherMode (s : State) {bs : List Byte} (h1 : byteAt bs 4 ≠ 1) (h2 : byteAt bs 4 ≠ 2) :
    s.rollcall bs = (s, bs) := by
  simp only [State.rollcall, if_neg h1, if_neg h2]

/-! ### A received ROLLCALL -/

/-- The unit with the run of bad headers cleared, as a good header leaves it in UP (R111). -/
def State.badRunCleared (s : State) : State := s.withRing { s.ring with badRun := 0 }

theorem exec_frameReceived_good {s : State} {frame : List Byte} (hup : s.ring.rx = .up) (hlen : frame.length = 308)
    (hgood : goodHeader frame = true) :
    exec (.frameReceived frame) s = .next (s.badRunCleared.decideFrame frame) := by
  change execFrameReceived frame s = _
  rw [execFrameReceived, if_neg (not_not.2 hlen), hup]
  exact if_pos hgood

theorem State.decideFrame_rollcall {s : State} {frame : List Byte} (hkind : kindCode frame = 5)
    (hown : ¬ (s.ring.own ≠ 63 ∧ frameOrigin frame = s.ring.own)) (hhop : hopCount frame ≠ 63) :
    s.decideFrame frame = (s.rollcall frame).1.emit (forwardFrame (s.rollcall frame).2) := by
  rw [← State.assigned_iff] at hown
  simp [State.decideFrame, hkind, hown, hhop]

/-- A ROLLCALL frame that is neither the unit's own nor an orphan, received in UP with a good header (Table 7-3). -/
structure State.HearsRollcall (s : State) (frame : List Byte) : Prop where
  up : s.ring.rx = .up
  length : frame.length = 308
  good : goodHeader frame = true
  kind : kindCode frame = 5
  notOwn : ¬ (s.ring.own ≠ 63 ∧ frameOrigin frame = s.ring.own)
  notOrphan : hopCount frame ≠ 63

/-- What a received ROLLCALL makes of the unit `s` and of the frame, where it leaves the own address `a` and forwards
the next address `next` and the count `count`: the unit `t` after it and the frame `out` it sends on. -/
structure RollcallEffect (s : State) (frame : List Byte) (a : Addr) (next : Byte) (count : Half) (t : State)
    (out : List Byte) : Prop where
  ringOut : t.ring.ringOut = some out
  good : goodHeader out = true
  hop : hopCount out = hopCount frame + 1
  next_eq : byteAt out 5 = next
  count_eq : halfAt out 6 = count
  own : t.ring.own = a
  notice : t.notice = if a = s.ring.own then s.notice else s.notice.addressChanged
  unchanged : t.ring.answers = s.ring.answers ∧ t.flows = s.flows ∧ t.pool = s.pool ∧ t.groups = s.groups ∧
    t.lane = s.lane ∧ t.mgmt = s.mgmt

section
variable {s : State} {frame : List Byte} (h : s.HearsRollcall frame)
include h

theorem exec_frameReceived_rollcall :
    exec (.frameReceived frame) s = .next ((s.badRunCleared.rollcall frame).1.emit
      (forwardFrame (s.badRunCleared.rollcall frame).2)) :=
  (exec_frameReceived_good h.up h.length h.good).trans
    (congrArg _ (State.decideFrame_rollcall (s := s.badRunCleared) h.kind h.notOwn h.notOrphan))

theorem rollcallEffect_emit (a : Addr) (next : Byte) (count : Half) :
    RollcallEffect s frame a next count
      ((s.badRunCleared.setAddress a).emit (forwardFrame (withRollcall frame next count)))
      (forwardFrame (withRollcall frame next count)) := by
  have hlen : 10 ≤ (withRollcall frame next count).length := by rw [length_withRollcall, h.length]; decide
  have hlen8 : 8 ≤ frame.length := by rw [h.length]; decide
  have hkind : kindCode (withRollcall frame next count) = 5 := by
    rw [← h.kind, kindCode, kindCode, byteAt_withRollcall_of_lt _ _ _ (by decide)]
  have hhop : hopCount (withRollcall frame next count) = hopCount frame := by
    rw [hopCount, hopCount, byteAt_withRollcall_of_lt _ _ _ (by decide)]
  have hlt : hopCount (withRollcall frame next count) < 63 :=
    hhop ▸ Nat.lt_of_le_of_ne (hopCount_le_of_goodHeader h.good) h.notOrphan
  exact {
    ringOut := rfl
    good := goodHeader_forwardFrame hlen hkind.le hlt
    hop := (hopCount_forwardFrame hlen hlt).trans (congrArg (· + 1) hhop)
    next_eq := (byteAt_forwardFrame hlen (by decide) (by decide)).trans (byteAt_withRollcall_next _ _ hlen8)
    count_eq := (halfAt_forwardFrame hlen (by decide) (by decide)).trans (halfAt_withRollcall_count _ _ hlen8)
    own := State.own_setAddress _ a
    notice := State.notice_setAddress _ a
    unchanged := State.setAddress_unchanged _ a }

/-- The effect of a ROLLCALL is the address it sets and the two fields it writes. -/
theorem exec_frameReceived_rollcallEffect {a : Addr} {next : Byte} {count : Half}
    (hr : s.badRunCleared.rollcall frame = (s.badRunCleared.setAddress a, withRollcall frame next count)) :
    ∃ t out, exec (.frameReceived frame) s = .next t ∧ RollcallEffect s frame a next count t out :=
  ⟨_, _, by rw [exec_frameReceived_rollcall h, hr], rollcallEffect_emit h a next count⟩

end

/-- Settles O15: each mode gives an address and the two fields to forward, and `RollcallEffect` says the rest. -/
theorem rollcallSetsOwnAddress : Obligations.RollcallSetsOwnAddress := by
  unfold Obligations.RollcallSetsOwnAddress
  refine ⟨fun s frame hup hlen hgood hkind hown hhop hmode => ?renumber,
    fun s frame hup hlen hgood hkind hown hhop hmode => ?fillIn,
    fun s frame hup hlen hgood hkind hown hhop h1 h2 => ?otherMode⟩
  all_goals have h : s.HearsRollcall frame := ⟨hup, hlen, hgood, hkind, hown, hhop⟩
  case renumber =>
    obtain ⟨a, next, hr, hands, withholds⟩ := s.badRunCleared.rollcall_renumber hmode
    obtain ⟨t, out, hexec, he⟩ := exec_frameReceived_rollcallEffect h hr
    obtain ⟨rfl, rfl⟩ : t.ring.own = a ∧ byteAt out 5 = next := ⟨he.own, he.next_eq⟩
    exact ⟨t, out, hexec, he.ringOut, he.good, he.hop, he.count_eq, hands, withholds,
      fun hsame => he.notice.trans (if_pos hsame), fun hdiff => he.notice.trans (if_neg hdiff), he.unchanged⟩
  case fillIn =>
    obtain ⟨a, next, count, hr, gets, keeps⟩ := s.badRunCleared.rollcall_fillIn hmode
    obtain ⟨t, out, hexec, he⟩ := exec_frameReceived_rollcallEffect h hr
    obtain ⟨rfl, rfl, rfl⟩ : t.ring.own = a ∧ byteAt out 5 = next ∧ halfAt out 6 = count :=
      ⟨he.own, he.next_eq, he.count_eq⟩
    refine ⟨t, out, hexec, he.ringOut, he.good, he.hop, fun htakes => ?_, fun hnot => ?_, he.unchanged⟩
    · obtain ⟨hto, hnext, hcount⟩ := gets htakes
      obtain ⟨hfrom, -, hle⟩ := htakes
      have hdiff : t.ring.own ≠ s.ring.own := by rw [hto, hfrom]; exact byteAddr_ne_unassigned hle
      exact ⟨hto, hnext, hcount, he.notice.trans (if_neg hdiff)⟩
    · obtain ⟨hsame, hnext, hcount⟩ := keeps hnot
      exact ⟨hsame, hnext, hcount, he.notice.trans (if_pos hsame)⟩
  case otherMode =>
    rw [exec_frameReceived_rollcall h, State.rollcall_otherMode _ h1 h2]
    rfl

end Sys2Proof.Machine
end

section
/-! CLAIM and RELEASE (R137): a lease in range taken by the holder or by anyone where there is none, and the end of a
claim by its holder alone. -/

namespace Sys2Proof.Machine

/-! ### The claim record and the reload of the lease (R136) -/

@[simp] theorem State.holder_reloaded (s : State) (c : QueuedCommand) :
    (s.reloaded c).mgmt.claim.holder = s.mgmt.claim.holder := by unfold State.reloaded; split <;> rfl

theorem State.reloaded_of_not_holder {s : State} {c : QueuedCommand} (h : s.mgmt.claim.holder ≠ some c.origin) :
    s.reloaded c = s := if_neg h

/-- A claim record that is replaced shows no reload before it. -/
@[simp] theorem State.withClaim_reloaded (s : State) (c : QueuedCommand) (k : Claim) :
    (s.reloaded c).withClaim k = s.withClaim k := by unfold State.reloaded; split <;> rfl

theorem State.holds_eq_true {s : State} {c : QueuedCommand} (h : s.mgmt.claim.holder = some c.origin) :
    s.holds c = true := beq_iff_eq.2 h

theorem State.holds_eq_false {s : State} {c : QueuedCommand} (h : s.mgmt.claim.holder ≠ some c.origin) :
    s.holds c = false := beq_eq_false_iff_ne.2 h

theorem State.refuseNotHolder_eq (s : State) (c : QueuedCommand) :
    s.refuseNotHolder c = s.answered c .notHolder (holderByte s.mgmt.claim.holder) [] := rfl

/-! ### CLAIM -/

section
variable {s : State} {c : QueuedCommand} (h : s.inTurn c) (hc : c.code = 0x0F) (hl : c.length = 2)
include h hc hl

theorem exec_claim_invalidField (hlease : claimLease c = 0 ∨ 60000 < claimLease c) :
    exec .claim s = .next ((s.reloaded c).answered c .invalidField 1 []) := by
  refine congrArg Host.Outcome.next ((State.execute_reads s _ h hc hl).trans ?_)
  simp only [if_pos hlease, State.refuse_eq]

variable (hlease : ¬ (claimLease c = 0 ∨ 60000 < claimLease c))
include hlease

theorem exec_claim_takes (hh : s.mgmt.claim.holder = none ∨ s.mgmt.claim.holder = some c.origin) :
    exec .claim s =
      .next ((s.withClaim { holder := some c.origin, lease := claimLease c, length := claimLease c }).answered
        c .done 0 []) := by
  refine congrArg Host.Outcome.next ((State.execute_reads s _ h hc hl).trans ?_)
  obtain hh | hh := hh
  · simp only [if_neg hlease, State.holder_reloaded, hh, State.withClaim_reloaded, State.succeed_eq]
  · simp only [if_neg hlease, State.holder_reloaded, hh, if_true, State.withClaim_reloaded, State.succeed_eq]

theorem exec_claim_claimed {a : Addr} (hh : s.mgmt.claim.holder = some a) (ha : a ≠ c.origin) :
    exec .claim s = .next (s.answered c .claimed (addrByte a) []) := by
  have hother : s.mgmt.claim.holder ≠ some c.origin := fun hown => ha (Option.some.inj (hh.symm.trans hown))
  refine congrArg Host.Outcome.next ((State.execute_reads s _ h hc hl).trans ?_)
  simp only [if_neg hlease, State.reloaded_of_not_holder hother, hh, if_neg ha, State.refuse_eq]

end

/-! ### RELEASE -/

section
variable {s : State} {c : QueuedCommand} (h : s.inTurn c) (hc : c.code = 0x10) (hl : c.length = 0)
include h hc hl

theorem exec_release_done (hh : s.mgmt.claim.holder = some c.origin) :
    exec .release s =
      .next ((s.withClaim { holder := none, lease := 0, length := 0 }).answered c .done 0 []) := by
  refine congrArg Host.Outcome.next ((State.execute_reads s _ h hc hl).trans ?_)
  have hholds : (s.reloaded c).holds c = true := State.holds_eq_true (by rw [State.holder_reloaded, hh])
  simp only [hholds, if_true, State.withClaim_reloaded, State.succeed_eq]

theorem exec_release_notHolder (hh : s.mgmt.claim.holder ≠ some c.origin) :
    exec .release s = .next (s.answered c .notHolder (holderByte s.mgmt.claim.holder) []) := by
  refine congrArg Host.Outcome.next ((State.execute_reads s _ h hc hl).trans ?_)
  simp only [State.reloaded_of_not_holder hh, State.holds_eq_false hh, Bool.false_eq_true, if_false,
    State.refuseNotHolder_eq]

end

/-- Settles O60: the lease and the holder name the answer of a CLAIM, the holder alone that of a RELEASE. -/
theorem claimIsHeldByOneOrigin : Obligations.ClaimIsHeldByOneOrigin := by
  unfold Obligations.ClaimIsHeldByOneOrigin
  refine ⟨fun s c hturn hcode hlen => ?claim, fun s c hturn hcode hlen => ?release⟩
  case claim =>
    intro lease r
    have inRange (h1 : 1 ≤ lease) (h60000 : lease ≤ 60000) : ¬ (claimLease c = 0 ∨ 60000 < claimLease c) := by
      change ¬ (lease = 0 ∨ 60000 < lease)
      omega
    exact ⟨exec_claim_invalidField hturn hcode hlen,
      fun h1 h60000 hh => exec_claim_takes hturn hcode hlen (inRange h1 h60000) hh,
      fun a h1 h60000 hh ha => exec_claim_claimed hturn hcode hlen (inRange h1 h60000) hh ha⟩
  case release =>
    refine ⟨exec_release_done hturn hcode hlen, fun hnone => ?none, fun a hh ha => ?other⟩
    case none =>
      rw [exec_release_notHolder hturn hcode hlen (by simp [hnone]), hnone]
      rfl
    case other =>
      rw [exec_release_notHolder hturn hcode hlen (by simpa [hh] using ha), hh]
      rfl

end Sys2Proof.Machine
end

section
/-! COUNTERS_GET (R140, R164): its checks in their own order, and the layout of its answer. -/

namespace Sys2Proof.Machine

/-! ### The counters of an answer (Table 11-4) -/

theorem halfAt_halfBytes (h : Half) : halfAt (halfBytes h) 0 = h := BitVec.extractLsb'_append_extractLsb'

theorem halfAt_flatMap_halfBytes (l : List Half) {i : Nat} (hi : i < l.length) :
    halfAt (l.flatMap halfBytes) (2 * i) = l[i] := by
  have hhigh := byteAt_flatMap (f := halfBytes) (n := 2) (j := 0) (fun _ => rfl) (by decide) l hi
  have hlow := byteAt_flatMap (f := halfBytes) (n := 2) (j := 1) (fun _ => rfl) (by decide) l hi
  rw [Nat.zero_add] at hhigh
  rw [Nat.add_comm] at hlow
  rw [halfAt, hhigh, hlow]
  exact halfAt_halfBytes l[i]

theorem Flow.length_counterBytes (fl : Flow) : fl.counterBytes.length = 24 := by
  simp [Flow.counterBytes, List.length_flatMap, halfBytes]

theorem Flow.halfAt_counterBytes (fl : Flow) (k : Fin 12) :
    halfAt fl.counterBytes (2 * k.val) = fl.counters[k.val] :=
  halfAt_flatMap_halfBytes fl.counters.toList (by simp)

/-! ### Its checks and effect (R140) -/

section
variable (s : State) {c : QueuedCommand}

theorem State.getCounters_badClear (hclear : 2 ≤ (c.param 1).toNat) :
    s.getCounters c = s.answered c .invalidField 1 [] := by
  simp only [State.getCounters, isBit_eq_false hclear, Bool.not_false, if_true, State.refuse_eq]

theorem State.getCounters_notHolder (hclear : (c.param 1).toNat = 1) (hh : s.mgmt.claim.holder ≠ some c.origin) :
    s.getCounters c = s.answered c .notHolder (holderByte s.mgmt.claim.holder) [] := by
  have hrefused : c.param 1 = 1 ∧ s.holds c = false := ⟨BitVec.eq_of_toNat_eq hclear, State.holds_eq_false hh⟩
  simp only [State.getCounters, isBit_eq_true (hclear.trans_lt Nat.one_lt_two), Bool.not_true, Bool.false_eq_true,
    if_false, if_pos hrefused, State.refuseNotHolder_eq]

/-- The twelve counters of flow `f` answered, cleared before the answer where the command says so. -/
def State.answerCounters (s : State) (c : QueuedCommand) (f : FlowIx) : State :=
  (if c.param 1 = 1 then s.setFlow f (s.flow f).clearCounters else s).answered c .done 0 (s.flow f).counterBytes

/-- Past the checks of the setting and of the claim the flow is looked up. -/
theorem State.getCounters_passes (hclear : (c.param 1).toNat ≤ 1)
    (hh : (c.param 1).toNat = 1 → s.mgmt.claim.holder = some c.origin) :
    s.getCounters c = s.withFlow c (s.answerCounters c) := by
  have hallowed : ¬ (c.param 1 = 1 ∧ s.holds c = false) := by
    rintro ⟨hone, hholds⟩
    rw [State.holds_eq_true (hh (by rw [hone]; rfl))] at hholds
    exact Bool.noConfusion hholds
  simp only [State.getCounters, isBit_eq_true (Nat.lt_succ_of_le hclear), Bool.not_true, Bool.false_eq_true, if_false,
    if_neg hallowed]
  rfl

theorem State.answerCounters_reads (f : FlowIx) (hclear : (c.param 1).toNat = 0) :
    s.answerCounters c f = s.answered c .done 0 (s.flow f).counterBytes := by
  have hkeeps : c.param 1 ≠ 1 := by bv_omega
  rw [State.answerCounters, if_neg hkeeps]

theorem State.answerCounters_clears (f : FlowIx) (hclear : (c.param 1).toNat = 1) :
    s.answerCounters c f =
      (s.setFlow f { s.flow f with counters := Vector.replicate 12 0 }).answered
        c .done 0 (s.flow f).counterBytes := by
  rw [State.answerCounters, if_pos (BitVec.eq_of_toNat_eq hclear), Flow.clearCounters]

end

theorem exec_countersGet {s : State} {c : QueuedCommand} (h : s.inTurn c) (hc : c.code = 0x0C) (hl : c.length = 2) :
    exec .countersGet s = .next ((s.reloaded c).getCounters c) :=
  congrArg Host.Outcome.next (State.execute_reads s _ h hc hl)

/-- Settles O56: the setting, the claim and the index are checked in this order, and what passes is answered with the
counters as they stood before any clearing. -/
theorem countersGetReadsAndClears : Obligations.CountersGetReadsAndClears := by
  unfold Obligations.CountersGetReadsAndClears
  intro s c hturn hcode hlen r clear mayClear
  rw [exec_countersGet hturn hcode hlen]
  have hholder : r.mgmt.claim.holder = s.mgmt.claim.holder := State.holder_reloaded s c
  have notHolder (hclear : clear = 1) (hh : s.mgmt.claim.holder ≠ some c.origin) :
      r.getCounters c = r.answered c .notHolder (holderByte s.mgmt.claim.holder) [] :=
    hholder ▸ State.getCounters_notHolder r hclear (hholder ▸ hh)
  have passes (hclear : clear ≤ 1) (hmay : clear = 1 → mayClear) :
      r.getCounters c = r.withFlow c (r.answerCounters c) :=
    State.getCounters_passes r hclear fun hone => hholder.trans (hmay hone)
  refine ⟨fun hclear => congrArg _ (State.getCounters_badClear r hclear), fun hclear hnone => ?noHolder,
    fun a hclear hh ha => ?otherHolder, fun hclear hmay hix => ?badIndex, fun f hclear hmay hf => ?done⟩
  case noHolder =>
    rw [notHolder hclear (by simp [hnone]), hnone]
    rfl
  case otherHolder =>
    rw [notHolder hclear (by simpa [hh] using ha), hh]
    rfl
  case badIndex => rw [passes hclear hmay, State.withFlow_badIndex _ _ hix]
  case done =>
    have hflow : r.flow f = s.flow f := State.flow_reloaded s c f
    refine ⟨(s.flow f).counterBytes, (s.flow f).length_counterBytes, (s.flow f).halfAt_counterBytes, fun h0 => ?_,
      fun h1 => ?_⟩
    · rw [passes hclear hmay, State.withFlow_flow _ _ hf, State.answerCounters_reads r f h0, hflow]
    · rw [passes hclear hmay, State.withFlow_flow _ _ hf, State.answerCounters_clears r f h1, hflow]

end Sys2Proof.Machine
end

section
/-! FLOW_RESTART (R78, R144): a flow found DISABLED is refused, an enabled one is flushed to IDLE. -/

namespace Sys2Proof.Machine

section
variable {s : State} {f : FlowIx} (c : QueuedCommand)

theorem State.restartFlow_disabled (h : (s.flow f).rt.state = .disabled) :
    s.restartFlow c f = s.answered c .badState 0 [] := by
  have hrefused : ¬ (s.flow f).rt.state.enabled = true := by rw [h]; exact Bool.false_ne_true
  rw [State.restartFlow, if_neg hrefused, h, State.refuse_eq]
  rfl

theorem State.restartFlow_enabled (h : (s.flow f).rt.state.enabled = true) :
    s.restartFlow c f =
      (((s.setFlow f ((s.flow f).emptied (.cleared .idle))).withPool
        (s.pool.released (s.flow f).held)).settleGroupOf f).answered c .done 0 [] := by
  rw [State.restartFlow, if_pos h, State.stopFlow_eq, State.succeed_eq]

end

theorem exec_flowRestart {s : State} {c : QueuedCommand} (h : s.inTurn c) (hc : c.code = 0x06) (hl : c.length = 1)
    (hh : s.mgmt.claim.holder = some c.origin) :
    exec .flowRestart s = .next ((s.reloaded c).withFlow c ((s.reloaded c).restartFlow c)) :=
  congrArg Host.Outcome.next (State.execute_passes s true _ h hc hl hh)

/-- Settles O55: the index and the flow's state name the answer, and the flush to IDLE leaves the groups as the loss of
a playing or holding flow does. -/
theorem flowRestartMakesFlowIdle : Obligations.FlowRestartMakesFlowIdle := by
  unfold Obligations.FlowRestartMakesFlowIdle
  intro s c hturn hcode hlen hholder r
  rw [exec_flowRestart hturn hcode hlen hholder]
  refine ⟨fun hix => congrArg _ (State.withFlow_badIndex _ _ hix), fun f hf => ?_⟩
  rw [State.withFlow_flow _ _ hf]
  have hflow (y : FlowIx) : r.flow y = s.flow y := State.flow_reloaded s c y
  refine ⟨fun hst => ?disabled, fun henabled => ?restarts⟩
  case disabled => exact congrArg _ (State.restartFlow_disabled c (by rwa [hflow]))
  case restarts =>
    refine ⟨_, congrArg _ (State.restartFlow_enabled c (by rwa [hflow])), ?_⟩
    rw [hflow]
    have hgroups := State.groupsAfterLoss_reloaded (x := (s.flow f).emptied (.cleared .idle)) c
      (r.pool.released (s.flow f).held) rfl rfl
    refine ⟨by simp [Runtime.cleared], fun y hy => ?_, by simp, hgroups, by simp, by simp,
      State.ring_answered_congr _ _ _ _ (by simp [r]), State.mgmt_answered_congr _ _ _ _ (by simp [r]), by simp⟩
    simpa [hflow] using State.flow_setFlow_ne r _ hy

end Sys2Proof.Machine
end

section
/-! The taking of a COMMAND frame (R127 to R129): the checks of the frame, an acknowledgement, and the two ways a
retransmission is known. -/

namespace Sys2Proof.Machine

/-- An acknowledgement names its notice in body byte 0, which is frame byte 10 (R108). -/
theorem byteAt_frameBody_zero (bs : List Byte) : byteAt (frameBody bs) 0 = byteAt bs 10 := by
  simp [byteAt, frameBody, List.getD_eq_getElem?_getD]

theorem State.answerRoom_eq_zero_iff (s : State) :
    s.answerRoom = 0 ↔ 8 ≤ s.ring.answers.length + s.mgmt.queue.length := by
  unfold State.answerRoom
  omega

/-- The oldest cached answer under an origin and tag is the one found (R129). -/
theorem cachedAnswer_at {before behind : List Answer} {a : Answer} {c : QueuedCommand} (hdest : a.dest = c.origin)
    (htag : a.tag = c.tag) (hbefore : ∀ b ∈ before, ¬ (b.dest = c.origin ∧ b.tag = c.tag)) :
    cachedAnswer (before ++ a :: behind) c = some a := by
  refine find?_at _ before a behind (fun b hb => ?_) (by simp [hdest, htag])
  simpa using hbefore b hb

/-- A command of the queue has the origin and tag of command `c` (R129). -/
def Mgmt.Queues (m : Mgmt) (c : QueuedCommand) : Prop := ∃ q ∈ m.queue, q.origin = c.origin ∧ q.tag = c.tag

theorem Mgmt.queues_iff_any (m : Mgmt) (c : QueuedCommand) :
    m.Queues c ↔ (m.queue.any fun q => (q.origin == c.origin) && (q.tag == c.tag)) = true := by
  simp [Mgmt.Queues]

/-! ### The cases, in the order in which they are tried -/

section
variable (s : State) {frame : List Byte}

theorem State.takeCommand_badBody (hbody : bodyGood frame = false) :
    s.takeCommand frame = s.withMgmt { s.mgmt with crcErrors := s.mgmt.crcErrors + 1 } := by
  simp only [State.takeCommand, hbody, Bool.not_false, if_true]

variable (hbody : bodyGood frame = true)
include hbody

theorem State.takeCommand_badOrigin
    (horigin : (frameCommand frame).origin = 62 ∨ (frameCommand frame).origin = 63) :
    s.takeCommand frame = s.loseCommand := by
  simp only [State.takeCommand, hbody, Bool.not_true, Bool.false_eq_true, if_false, if_pos horigin]

variable (horigin : ¬ ((frameCommand frame).origin = 62 ∨ (frameCommand frame).origin = 63))
include horigin

theorem State.takeCommand_acknowledges (hcode : (frameCommand frame).code = 0x11) :
    s.takeCommand frame = s.withNotice (s.notice.acknowledge (byteAt frame 10)) := by
  simp only [State.takeCommand, hbody, Bool.not_true, Bool.false_eq_true, if_false, if_neg horigin, if_pos hcode,
    byteAt_frameBody_zero]

variable (hcode : (frameCommand frame).code ≠ 0x11)
include hcode

theorem State.takeCommand_absorbs (hqueued : s.mgmt.Queues (frameCommand frame)) :
    s.takeCommand frame = s.withMgmt { s.mgmt with absorbed := s.mgmt.absorbed + 1 } := by
  simp only [State.takeCommand, hbody, Bool.not_true, Bool.false_eq_true, if_false, if_neg horigin, if_neg hcode,
    if_pos ((Mgmt.queues_iff_any _ _).1 hqueued)]

theorem State.takeCommand_repeats (hqueued : ¬ s.mgmt.Queues (frameCommand frame)) {a : Answer}
    (hcached : cachedAnswer s.mgmt.cache (frameCommand frame) = some a) :
    s.takeCommand frame = if s.answerRoom = 0 then s.loseCommand else s.appendAnswer a := by
  simp only [State.takeCommand, hbody, Bool.not_true, Bool.false_eq_true, if_false, if_neg horigin, if_neg hcode,
    if_neg (mt (Mgmt.queues_iff_any _ _).2 hqueued), hcached]

end

/-- Settles O16: the first case that applies decides; a retransmission is looked for in the queue before the cache, and
a cached answer needs a free place that no queued command is owed. -/
theorem takingChecksFrameThenRepeats : Obligations.TakingChecksFrameThenRepeats := by
  unfold Obligations.TakingChecksFrameThenRepeats
  refine ⟨fun s frame =>
      ⟨s.takeCommand_badBody, s.takeCommand_badOrigin, fun hbody h62 h63 hcode => ?acknowledges⟩,
    fun s frame hbody h62 h63 hcode => ?retransmission⟩
  case acknowledges => exact s.takeCommand_acknowledges hbody (not_or.2 ⟨h62, h63⟩) hcode
  case retransmission =>
    have horigin := not_or.2 ⟨h62, h63⟩
    intro known
    refine ⟨s.takeCommand_absorbs hbody horigin hcode, fun hnew before a behind hcache hdest htag hbefore => ?_⟩
    have hcached : cachedAnswer s.mgmt.cache (frameCommand frame) = some a :=
      hcache ▸ cachedAnswer_at hdest htag hbefore
    rw [s.takeCommand_repeats hbody horigin hcode hnew hcached]
    exact ⟨fun hroom => if_neg (mt s.answerRoom_eq_zero_iff.1 hroom.not_ge),
      fun hfull => if_pos (s.answerRoom_eq_zero_iff.2 hfull)⟩

end Sys2Proof.Machine
end

section
/-! The notice list (R152, R153): what an entry is, the one entry of its sort, and the number a new entry is given. -/

namespace Sys2Proof.Machine

/-! ### What an entry is -/

theorem NoticeEntry.isSent_iff (e : NoticeEntry) : e.isSent = true ↔ e.condition ≠ .pending := by
  unfold NoticeEntry.isSent; cases e.condition <;> simp

theorem NoticeEntry.isSent_eq_false_iff (e : NoticeEntry) : e.isSent = false ↔ e.condition = .pending := by
  rw [← Bool.not_eq_true, NoticeEntry.isSent_iff, not_not]

theorem NoticeEntry.pendingOf_iff (e : NoticeEntry) (k : NoticeKind) (x : Subject) :
    e.pendingOf k x = true ↔ e.kind = k ∧ e.subject = x ∧ e.condition = .pending := by
  simp [NoticeEntry.pendingOf, and_assoc]

theorem NoticeEntry.inOverflowPlace_iff (e : NoticeEntry) : e.inOverflowPlace = true ↔ e.kind = .overflow :=
  decide_eq_true_iff

/-! ### The one entry of its sort -/

/-- Where at most one element has a property, none stands before the one that has it. -/
theorem before_eq_false_of_unique {α : Type} {p : α → Bool} {before behind : List α} {x : α}
    (h : ((before ++ x :: behind).filter p).length ≤ 1) (hx : p x = true) : ∀ y ∈ before, p y = false := by
  rw [List.filter_append, List.filter_cons_of_pos hx, List.length_append, List.length_cons] at h
  have hnil : before.filter p = [] := List.length_eq_zero_iff.1 (by omega)
  simpa using hnil

theorem find?_of_unique {α : Type} {p : α → Bool} {l : List α} {x : α} (h : (l.filter p).length ≤ 1) (hmem : x ∈ l)
    (hx : p x = true) : l.find? p = some x := by
  obtain ⟨before, behind, rfl⟩ := List.append_of_mem hmem
  exact find?_at p before x behind (before_eq_false_of_unique h hx) hx

/-! ### The next free number (R153) -/

/-- The search stops at the first number that no entry holds, or when its tries are used up. -/
theorem freeNumber_eq (es : List NoticeEntry) (fuel : Nat) (n : Byte) :
    ∃ j ≤ fuel, freeNumber es fuel n = n + BitVec.ofNat 8 j ∧
      (∀ k < j, ∃ e ∈ es, e.number = n + BitVec.ofNat 8 k) ∧
      (j < fuel → ∀ e ∈ es, e.number ≠ n + BitVec.ofNat 8 j) := by
  induction fuel generalizing n with
  | zero => exact ⟨0, Nat.le_refl 0, by simp [freeNumber], by simp, by simp⟩
  | succ fuel ih =>
    have hshift (k : Nat) : n + 1 + BitVec.ofNat 8 k = n + BitVec.ofNat 8 (k + 1) := by
      rw [BitVec.add_assoc, Nat.add_comm k 1, BitVec.ofNat_add]
      rfl
    by_cases hheld : ∃ e ∈ es, e.number = n
    case neg =>
      have hstop : freeNumber es (fuel + 1) n = n := if_neg (by simpa using hheld)
      exact ⟨0, Nat.zero_le _, by simpa using hstop, by simp, by simpa using hheld⟩
    case pos =>
      have hstep : freeNumber es (fuel + 1) n = freeNumber es fuel (n + 1) := if_pos (by simpa using hheld)
      obtain ⟨j, hj, heq, hbelow, hfree⟩ := ih (n + 1)
      simp only [hshift] at heq hbelow hfree
      refine ⟨j + 1, Nat.succ_le_succ hj, hstep.trans heq, fun k hk => ?_, fun h => hfree (by omega)⟩
      cases k with
      | zero => simpa using hheld
      | succ k => exact hbelow k (by omega)

/-- Fewer than 256 entries do not hold every number. -/
theorem length_ge_of_all_held {es : List NoticeEntry} {n : Byte}
    (h : ∀ k < 256, ∃ e ∈ es, e.number = n + BitVec.ofNat 8 k) : 256 ≤ es.length := by
  have hnodup : ((List.range 256).map fun k => n + BitVec.ofNat 8 k).Nodup := by
    refine List.Nodup.map_on (fun a ha b hb hab => ?_) List.nodup_range
    rw [List.mem_range] at ha hb
    have hmod : a % 256 = b % 256 := by simpa [← BitVec.toNat_inj] using hab
    omega
  have hsub : ((List.range 256).map fun k => n + BitVec.ofNat 8 k) ⊆ es.map NoticeEntry.number := by
    simpa [List.subset_def] using h
  simpa using (List.subperm_of_subset hnodup hsub).length_le

theorem NoticeUnit.Lawful.length_entries {n : NoticeUnit} (h : n.Lawful) : n.entries.length ≤ 17 := by
  obtain ⟨hordinary, hoverflow, -⟩ := h
  rw [List.length_eq_length_filter_add NoticeEntry.inOverflowPlace]
  omega

theorem NoticeUnit.gives_giveNumber {n : NoticeUnit} (h : n.Lawful) : n.Gives n.giveNumber := by
  obtain ⟨j, hj, heq, hbelow, hfree⟩ := freeNumber_eq n.entries 256 n.nextNumber
  have hlt : j < 256 := by
    refine Nat.lt_of_le_of_ne hj fun hall => ?_
    have := length_ge_of_all_held (hall ▸ hbelow)
    have := h.length_entries
    omega
  rw [← NoticeUnit.giveNumber] at heq
  have hcount : (n.giveNumber - n.nextNumber).toNat = j := by
    rw [heq, BitVec.add_comm, BitVec.add_sub_cancel, BitVec.toNat_ofNat, Nat.mod_eq_of_lt hlt]
  exact ⟨by rw [heq]; exact hfree hlt, fun k hk => hbelow k (hcount ▸ hk)⟩

end Sys2Proof.Machine
end

section
/-! A raise (R151, R153, R154): masked off, coalesced, appended, or lost. -/

namespace Sys2Proof.Machine

/-! ### The four outcomes of a raise -/

theorem NoticeUnit.take_masked {n : NoticeUnit} {r : Raise} (h : ¬ n.mask.getLsbD (noticeCode r.kind) = true) :
    n.take r = n := if_neg h

section
variable {n : NoticeUnit} {r : Raise} (hon : n.mask.getLsbD (noticeCode r.kind) = true)
include hon

theorem NoticeUnit.take_coalesces {before behind : List NoticeEntry} {e : NoticeEntry}
    (hes : n.entries = before ++ e :: behind) (he : e.pendingOf r.kind r.subject = true)
    (hb : ∀ y ∈ before, y.pendingOf r.kind r.subject = false) :
    n.take r = { n with entries := before ++ e.coalesce r :: behind } := by
  have hany : n.entries.any (fun y => y.pendingOf r.kind r.subject) = true :=
    List.any_eq_true.2 ⟨e, by simp [hes], he⟩
  rw [NoticeUnit.take, if_pos hon, if_pos hany, hes, updateFirst_at _ _ before e behind hb he]

variable (hnew : ∀ e ∈ n.entries, ¬ e.pendingOf r.kind r.subject = true)
include hnew

theorem NoticeUnit.take_appends (hroom : (n.entries.filter fun e => !e.inOverflowPlace).length < 16) :
    n.take r = n.append r := by
  rw [NoticeUnit.take, if_pos hon, if_neg (by simpa using hnew), if_pos hroom]

theorem NoticeUnit.take_loses (hfull : ¬ (n.entries.filter fun e => !e.inOverflowPlace).length < 16) :
    n.take r = n.lose := by
  rw [NoticeUnit.take, if_pos hon, if_neg (by simpa using hnew), if_neg hfull]

end

/-! ### A lost raise and the overflow place (R154) -/

section
variable {n : NoticeUnit}

theorem NoticeUnit.lose_appends (hnone : n.entries.find? NoticeEntry.inOverflowPlace = none)
    (hon : n.mask.getLsbD 8 = true) :
    n.lose = { n with overflow := true }.append { kind := .overflow, subject := .none, detail := 0, dest := none } := by
  simp only [NoticeUnit.lose, hnone, noticeCode, hon, if_true]

theorem NoticeUnit.lose_masked (hnone : n.entries.find? NoticeEntry.inOverflowPlace = none)
    (hoff : n.mask.getLsbD 8 = false) : n.lose = { n with overflow := true } := by
  simp only [NoticeUnit.lose, hnone, noticeCode, hoff, Bool.false_eq_true, if_false]

theorem NoticeUnit.lose_sent {e : NoticeEntry} (he : n.entries.find? NoticeEntry.inOverflowPlace = some e)
    (hs : e.isSent = true) : n.lose = { n with overflow := true } := by
  simp only [NoticeUnit.lose, he, hs, if_true]

theorem NoticeUnit.lose_pending {e : NoticeEntry} (he : n.entries.find? NoticeEntry.inOverflowPlace = some e)
    (hp : e.isSent = false) :
    n.lose = { n with
      overflow := true
      entries := updateFirst NoticeEntry.inOverflowPlace (fun e => { e with repeats := saturate (e.repeats + 1) })
        n.entries } := by
  simp only [NoticeUnit.lose, he, hp, Bool.false_eq_true, if_false]

/-- The flag is set whatever the overflow place holds. -/
theorem NoticeUnit.overflow_lose (n : NoticeUnit) : n.lose.overflow = true := by
  cases hfind : n.entries.find? NoticeEntry.inOverflowPlace with
  | none =>
    cases hmask : n.mask.getLsbD 8 with
    | true => rw [NoticeUnit.lose_appends hfind hmask]; rfl
    | false => rw [NoticeUnit.lose_masked hfind hmask]
  | some e =>
    cases hsent : e.isSent with
    | true => rw [NoticeUnit.lose_sent hfind hsent]
    | false => rw [NoticeUnit.lose_pending hfind hsent]

theorem NoticeUnit.find?_overflowPlace_eq_none (h : ∀ e ∈ n.entries, e.kind ≠ .overflow) :
    n.entries.find? NoticeEntry.inOverflowPlace = none :=
  List.find?_eq_none.2 fun e he => mt e.inOverflowPlace_iff.1 (h e he)

theorem NoticeUnit.entries_lose_pending (hlaw : n.Lawful) {before behind : List NoticeEntry} {e : NoticeEntry}
    (hes : n.entries = before ++ e :: behind) (hkind : e.kind = .overflow) (hp : e.condition = .pending) :
    n.lose.entries = before ++ { e with repeats := saturate (e.repeats + 1) } :: behind := by
  obtain ⟨-, hone, -⟩ := hlaw
  have hplace := e.inOverflowPlace_iff.2 hkind
  have hfind := find?_of_unique hone (hes ▸ List.mem_append_right before List.mem_cons_self) hplace
  rw [NoticeUnit.lose_pending hfind (e.isSent_eq_false_iff.2 hp)]
  rw [hes] at hone ⊢
  exact updateFirst_at _ _ before e behind (before_eq_false_of_unique hone hplace) hplace

theorem NoticeUnit.entries_lose_sent (hlaw : n.Lawful) {e : NoticeEntry} (hmem : e ∈ n.entries)
    (hkind : e.kind = .overflow) (hs : e.condition ≠ .pending) : n.lose.entries = n.entries := by
  obtain ⟨-, hone, -⟩ := hlaw
  rw [NoticeUnit.lose_sent (find?_of_unique hone hmem (e.inOverflowPlace_iff.2 hkind)) (e.isSent_iff.2 hs)]

end

/-- Settles O44: the law of the list makes the entry that waits, and the one in the overflow place, the first of its
sort; and of at most 17 entries some number is always free. -/
theorem raiseCoalescesOrAppendsOrIsLost : Obligations.RaiseCoalescesOrAppendsOrIsLost := by
  unfold Obligations.RaiseCoalescesOrAppendsOrIsLost
  intro n r hlaw _ _ on waiting ordinary
  have hwaiting (e : NoticeEntry) : e.pendingOf r.kind r.subject = true ↔ waiting e := e.pendingOf_iff _ _
  have hordinary : (n.entries.filter fun e => !e.inOverflowPlace) = ordinary := by
    simp only [ordinary, NoticeEntry.inOverflowPlace, decide_not]
  refine ⟨NoticeUnit.take_masked, fun hon before e behind hes he => ?coalesced, fun hon hnew hroom => ?appended,
    fun hon hnew hfull => ?lost⟩
  case coalesced =>
    obtain ⟨-, -, hone⟩ := hlaw
    have hp := (hwaiting e).2 he
    exact NoticeUnit.take_coalesces hon hes hp (before_eq_false_of_unique (hes ▸ (hone r.kind r.subject).1) hp)
  case appended =>
    refine ⟨n.giveNumber, NoticeUnit.gives_giveNumber hlaw, ?_⟩
    rw [NoticeUnit.take_appends hon (fun e he => mt (hwaiting e).1 (hnew e he)) (hordinary ▸ hroom)]
    rfl
  case lost =>
    rw [NoticeUnit.take_loses hon (fun e he => mt (hwaiting e).1 (hnew e he)) (hordinary ▸ hfull.not_lt)]
    refine ⟨n.overflow_lose, fun hnone hmask => ⟨n.giveNumber, NoticeUnit.gives_giveNumber hlaw, ?_⟩,
      fun before e behind => NoticeUnit.entries_lose_pending hlaw, ?_⟩
    · rw [NoticeUnit.lose_appends (NoticeUnit.find?_overflowPlace_eq_none hnone) hmask]
      exact ⟨rfl, rfl⟩
    · rintro (⟨e, hmem, hkind, hsent⟩ | ⟨hnone, hmask⟩)
      · exact NoticeUnit.entries_lose_sent hlaw hmem hkind hsent
      · rw [NoticeUnit.lose_masked (NoticeUnit.find?_overflowPlace_eq_none hnone) hmask]

end Sys2Proof.Machine
end

section
/-! An acknowledgement (R157), and the notice list at an address change (R160). -/

namespace Sys2Proof.Machine

/-! ### Acknowledgements -/

theorem NoticeUnit.withdraw_eq (n : NoticeUnit) (number : Byte) :
    n.withdraw number = { n with offer := n.offer.filter fun o => o.number != number } := by
  obtain ⟨mask, entries, overflow, retry, nextNumber, offer, lost, acksIgnored⟩ := n
  cases offer with
  | none => rfl
  | some o => by_cases h : o.number = number <;> simp [NoticeUnit.withdraw, Option.filter, h]

theorem number_ne_of_distinct {n : NoticeUnit} (h : n.NumbersDistinct) {before behind : List NoticeEntry}
    {e : NoticeEntry} (hes : n.entries = before ++ e :: behind) : ∀ y ∈ before ++ behind, y.number ≠ e.number := by
  rw [NoticeUnit.NumbersDistinct, hes, List.map_append, List.map_cons, List.nodup_middle, List.nodup_cons,
    ← List.map_append] at h
  exact fun y hy heq => h.1 (heq ▸ List.mem_map_of_mem hy)

/-- An acknowledgement matches the SENT entry of its number (R157). -/
def NoticeEntry.acknowledgedBy (number : Byte) (e : NoticeEntry) : Bool := e.isSent && (e.number == number)

theorem NoticeEntry.acknowledgedBy_iff (number : Byte) (e : NoticeEntry) :
    e.acknowledgedBy number = true ↔ e.condition ≠ .pending ∧ e.number = number := by
  simp [NoticeEntry.acknowledgedBy, NoticeEntry.isSent_iff]

theorem NoticeUnit.acknowledge_sent {n : NoticeUnit} {number : Byte} {before behind : List NoticeEntry}
    {e : NoticeEntry} (hes : n.entries = before ++ e :: behind) (he : e.acknowledgedBy number = true)
    (hothers : ∀ y ∈ before ++ behind, y.acknowledgedBy number = false) :
    n.acknowledge number = { n with
      entries := before ++ behind
      offer := n.offer.filter (fun o => o.number != number)
      overflow := n.overflow && !e.inOverflowPlace } := by
  have hfind : n.entries.find? (NoticeEntry.acknowledgedBy number) = some e :=
    hes ▸ find?_at _ before e behind (fun y hy => hothers y (List.mem_append_left behind hy)) he
  have hrest : n.entries.filter (fun y => !y.acknowledgedBy number) = before ++ behind := by
    rw [hes, List.filter_append, List.filter_cons_of_neg (by simp [he]), ← List.filter_append]
    exact List.filter_eq_self.2 fun y hy => by simp [hothers y hy]
  unfold NoticeEntry.acknowledgedBy at hfind hrest
  simp only [NoticeUnit.acknowledge, hfind, hrest, NoticeUnit.withdraw_eq]

theorem NoticeUnit.acknowledge_ignored {n : NoticeUnit} {number : Byte}
    (h : ∀ e ∈ n.entries, e.acknowledgedBy number = false) :
    n.acknowledge number = { n with acksIgnored := n.acksIgnored + 1 } := by
  have hfind : n.entries.find? (NoticeEntry.acknowledgedBy number) = none := List.find?_eq_none.2 (by simpa using h)
  unfold NoticeEntry.acknowledgedBy at hfind
  simp only [NoticeUnit.acknowledge, hfind]

/-! ### The entries an address change leaves (R160) -/

/-- Step 3: the entry is SENT and a PENDING one of its kind and subject stands in the list, which takes it in. -/
def NoticeEntry.mergesIn (es : List NoticeEntry) (e : NoticeEntry) : Prop :=
  e.condition ≠ .pending ∧ ∃ x ∈ es, x.condition = .pending ∧ x.kind = e.kind ∧ x.subject = e.subject

theorem mem_returnSent {es : List NoticeEntry} {e : NoticeEntry} (he : e ∈ es) (h : ¬ e.mergesIn es) :
    e.returned es ∈ returnSent es := by
  refine List.mem_map_of_mem (List.mem_filter.2 ⟨he, ?_⟩)
  rw [Bool.not_eq_true', Bool.eq_false_iff]
  intro hm
  rw [Bool.and_eq_true, NoticeEntry.isSent_iff, List.any_eq_true] at hm
  obtain ⟨hs, x, hx, hp⟩ := hm
  obtain ⟨hk, hj, hc⟩ := (x.pendingOf_iff _ _).1 hp
  exact h ⟨hs, x, hx, hc, hk, hj⟩

section
variable {es : List NoticeEntry} {e : NoticeEntry}

theorem NoticeEntry.returned_sent (h : e.condition ≠ .pending) : e.returned es = { e with condition := .pending } :=
  if_pos (e.isSent_iff.2 h)

variable (h : e.condition = .pending)
include h

theorem NoticeEntry.returned_alone
    (halone : ∀ x ∈ es, x.kind = e.kind → x.subject = e.subject → x.condition = .pending) : e.returned es = e := by
  have hfind : es.find? (fun x => x.isSent && x.sameMatter e) = none := by
    refine List.find?_eq_none.2 fun x hx hm => ?_
    simp only [NoticeEntry.sameMatter, Bool.and_eq_true, decide_eq_true_eq, NoticeEntry.isSent_iff] at hm
    obtain ⟨hs, hk, hj⟩ := hm
    exact hs (halone x hx hk hj)
  simp only [NoticeEntry.returned, e.isSent_eq_false_iff.2 h, Bool.false_eq_true, if_false, hfind]

theorem NoticeEntry.returned_merged {r : NoticeEntry}
    (hone : (es.filter fun x => x.isSent && decide (x.kind = e.kind) && decide (x.subject = e.subject)).length ≤ 1)
    (hr : r ∈ es) (hs : r.condition ≠ .pending) (hk : r.kind = e.kind) (hj : r.subject = e.subject) :
    e.returned es = { e with repeats := saturate (e.repeats + r.repeats + 1) } := by
  have hfind : es.find? (fun x => x.isSent && x.sameMatter e) = some r :=
    find?_of_unique (by simpa only [NoticeEntry.sameMatter, Bool.and_assoc] using hone) hr
      (by simp [NoticeEntry.sameMatter, r.isSent_iff.2 hs, hk, hj])
  simp only [NoticeEntry.returned, e.isSent_eq_false_iff.2 h, Bool.false_eq_true, if_false, hfind]

end

theorem NoticeEntry.condition_returned (es : List NoticeEntry) (e : NoticeEntry) :
    (e.returned es).condition = .pending := by
  unfold NoticeEntry.returned
  split
  · rfl
  · next h =>
    have hp := e.isSent_eq_false_iff.1 (Bool.eq_false_iff.2 h)
    split <;> exact hp

@[simp] theorem NoticeEntry.number_returned (es : List NoticeEntry) (e : NoticeEntry) :
    (e.returned es).number = e.number := by
  unfold NoticeEntry.returned
  split
  · rfl
  · split <;> rfl

/-- The numbers kept, in their places, are those of the entries that are not merged. -/
theorem number_returnSent (es : List NoticeEntry) :
    (returnSent es).map NoticeEntry.number =
      (es.filter fun e => decide (¬ (e.condition ≠ .pending ∧
        es.any (fun x => decide (x.condition = .pending ∧ x.kind = e.kind ∧ x.subject = e.subject)) = true))).map
        NoticeEntry.number := by
  rw [returnSent, List.map_map]
  congr 1
  · funext e; exact e.number_returned es
  · refine List.filter_congr fun e _ => ?_
    rw [Bool.eq_iff_iff]
    simp [← NoticeEntry.isSent_iff, NoticeEntry.pendingOf, and_comm, and_assoc]

/-! ### The acknowledgement and the address change together -/

/-- Settles O45: distinct numbers leave one entry to acknowledge, and the law of the list one SENT entry to merge into a
PENDING one; every other entry is returned as it stands. -/
theorem acknowledgementAndAddressChange : Obligations.AcknowledgementAndAddressChange := by
  unfold Obligations.AcknowledgementAndAddressChange
  refine ⟨fun n number hdistinct => ⟨fun before e behind m j hes hnumber hsent => ?acknowledged, fun hnone => ?ignored⟩,
    fun n hlaw => ?changed⟩
  case acknowledged =>
    have hothers := number_ne_of_distinct hdistinct hes
    rw [NoticeUnit.acknowledge_sent hes ((e.acknowledgedBy_iff _).2 ⟨by simp [hsent], hnumber⟩) fun y hy =>
      Bool.eq_false_iff.2 fun hy' => hothers y hy (((y.acknowledgedBy_iff _).1 hy').2.trans hnumber.symm)]
    by_cases hkind : e.kind = .overflow <;> simp [NoticeEntry.inOverflowPlace, hkind]
  case ignored =>
    exact NoticeUnit.acknowledge_ignored fun e he => Bool.eq_false_iff.2 fun h => by
      obtain ⟨hsent, hnumber⟩ := (e.acknowledgedBy_iff _).1 h
      exact hsent (hnone e he hnumber)
  case changed =>
    obtain ⟨-, -, hone⟩ := hlaw
    intro t merged
    have hmem (e : NoticeEntry) (he : e ∈ n.entries) (h : ¬ merged e) : e.returned n.entries ∈ t.entries :=
      mem_returnSent he h
    refine ⟨rfl, fun e he => ?pending, number_returnSent n.entries, fun e he hs hm => ?returned,
      fun e he hp halone => ?alone, fun e he r hr hp hs hk hj => ?merged, rfl⟩
    case pending =>
      obtain ⟨x, -, rfl⟩ := List.mem_map.1 he
      exact NoticeEntry.condition_returned _ x
    case returned => exact NoticeEntry.returned_sent hs ▸ hmem e he hm
    case alone =>
      have hin := hmem e he fun hm => hm.1 hp
      rwa [NoticeEntry.returned_alone hp halone] at hin
    case merged =>
      have hin := hmem e he fun hm => hm.1 hp
      rwa [NoticeEntry.returned_merged hp (hone e.kind e.subject).2 hr hs hk hj] at hin

end Sys2Proof.Machine
end

section
/-! STATUS_GET (R166): where the fields of its answer stand, and the unit as the reload of the lease leaves it. -/

namespace Sys2Proof.Machine

/-! ### Fields of more than one byte (Section 11: most significant byte first) -/

theorem halfAt_of_bytes {bs : List Byte} {i : Nat} {h : Half} (hhigh : byteAt bs i = h.extractLsb' 8 8)
    (hlow : byteAt bs (i + 1) = h.extractLsb' 0 8) : halfAt bs i = h := by
  rw [halfAt, hhigh, hlow]
  exact halfAt_halfBytes h

theorem longWord_of_bytes {b₃ b₂ b₁ b₀ : Byte} {w : LongWord} (h₃ : b₃ = w.extractLsb' 24 8)
    (h₂ : b₂ = w.extractLsb' 16 8) (h₁ : b₁ = w.extractLsb' 8 8) (h₀ : b₀ = w.extractLsb' 0 8) :
    b₃ ++ b₂ ++ b₁ ++ b₀ = w := by
  have join {high low len : Nat} (h : high = low + 8) :
      w.extractLsb' high len ++ w.extractLsb' low 8 = w.extractLsb' low (len + 8) :=
    BitVec.extractLsb'_append_extractLsb'_eq_extractLsb' h
  rw [h₃, h₂, h₁, h₀, join rfl, join rfl, join rfl]
  exact BitVec.extractLsb'_eq_self

/-! ### What the reload of the lease leaves (R136) -/

@[simp] theorem State.outstanding_reloaded (s : State) (c : QueuedCommand) :
    (s.reloaded c).outstanding = s.outstanding := by
  simp only [State.outstanding, State.flow_reloaded]

@[simp] theorem State.queue_reloaded (s : State) (c : QueuedCommand) : (s.reloaded c).mgmt.queue = s.mgmt.queue := by
  unfold State.reloaded; split <;> rfl

@[simp] theorem State.crcErrors_reloaded (s : State) (c : QueuedCommand) :
    (s.reloaded c).mgmt.crcErrors = s.mgmt.crcErrors := by unfold State.reloaded; split <;> rfl

@[simp] theorem State.lost_reloaded (s : State) (c : QueuedCommand) : (s.reloaded c).mgmt.lost = s.mgmt.lost := by
  unfold State.reloaded; split <;> rfl

@[simp] theorem State.absorbed_reloaded (s : State) (c : QueuedCommand) :
    (s.reloaded c).mgmt.absorbed = s.mgmt.absorbed := by unfold State.reloaded; split <;> rfl

/-! ### The answer (Table 11-9) -/

theorem State.length_statusData (s : State) : s.statusData.length = 43 := rfl

theorem exec_statusGet {s : State} {c : QueuedCommand} (h : s.inTurn c) (hc : c.code = 0x01) (hl : c.length = 0) :
    exec .statusGet s = .next ((s.reloaded c).answered c .done 0 (s.reloaded c).statusData) :=
  congrArg Host.Outcome.next (State.execute_reads s _ h hc hl)

/-- Settles O47: the answer is the status of the unit after the reload, which leaves every item but the lease as it was;
each item stands where Table 11-9 puts it. -/
theorem statusGetReportsUnit : Obligations.StatusGetReportsUnit := by
  unfold Obligations.StatusGetReportsUnit
  intro s c hturn hcode hlen
  refine ⟨(s.reloaded c).statusData, exec_statusGet hturn hcode hlen, State.length_statusData _, ?_⟩
  rw [← s.ring_reloaded c, ← s.lane_reloaded c, ← s.holder_reloaded c, ← s.pool_reloaded c, ← s.outstanding_reloaded c,
    ← s.notice_reloaded c, ← s.queue_reloaded c, ← s.crcErrors_reloaded c, ← s.lost_reloaded c, ← s.absorbed_reloaded c]
  generalize s.reloaded c = r
  intro long
  refine ⟨rfl, rfl, ?clock, rfl, ?lease, ?free, ?outstanding, rfl, rfl, ?headerErrors, ?orphans, ?crcErrors, ?lost,
    ?absorbed, ?noticesLost, ?acksIgnored, ?identity, rfl⟩
  case clock =>
    change flagByte (r.lane.status == .present) = _
    cases r.lane.status <;> rfl
  case lease | free | outstanding | identity => exact halfAt_of_bytes rfl rfl
  case headerErrors | orphans | crcErrors | lost | absorbed | noticesLost | acksIgnored =>
    exact longWord_of_bytes rfl rfl rfl rfl

end Sys2Proof.Machine
end

section
/-! FLOW_GET (R167) and GROUP_GET (R168): the summary of a flow, and a group with its reference (R83) and its members. -/

namespace Sys2Proof.Machine

/-! ### The summary of a flow (Tables 10-5 and 11-4) -/

theorem Window.headCrcBad_held {w : Window} {b : Block} (h : w.entryAt 0 = .held b) : w.headCrcBad = b.crcBad := by
  simp only [Window.headCrcBad, h]

theorem Window.headCrcBad_of_not_held {w : Window} (h : (w.entryAt 0).isHeld = false) : w.headCrcBad = false := by
  unfold Window.headCrcBad
  split
  · next b hb => rw [hb] at h; exact absurd h (by simp [Entry.isHeld])
  · rfl

theorem Flow.length_summary (fl : Flow) : fl.summary.length = 27 := rfl

/-- The record stands in the first 18 bytes as FLOW_SET takes it (Table 11-8). -/
theorem Flow.take_summary (fl : Flow) : fl.summary.take 18 = recordBytes fl.record := rfl

theorem Flow.byteAt_summary_crcBad (fl : Flow) : byteAt fl.summary 26 = flagByte fl.window.headCrcBad := rfl

section
variable {s : State} {c : QueuedCommand} (h : s.inTurn c) (hc : c.code = 0x03) (hl : c.length = 1)
include h hc hl

theorem exec_flowGet_badIndex (hix : 48 ≤ (byteAt c.params 0).toNat) :
    exec .flowGet s = .next ((s.reloaded c).answered c .badIndex 0 []) :=
  congrArg Host.Outcome.next ((State.execute_reads s _ h hc hl).trans (State.withFlow_badIndex _ _ hix))

theorem exec_flowGet_done {f : FlowIx} (hf : (byteAt c.params 0).toNat = f.val) :
    exec .flowGet s = .next ((s.reloaded c).answered c .done 0 (s.flow f).summary) := by
  refine congrArg Host.Outcome.next ((State.execute_reads s _ h hc hl).trans ?_)
  rw [State.withFlow_flow _ _ hf, State.complete_eq, State.flow_reloaded]

end

/-! ### The reference of a group (R83) -/

section
variable {s : State} {g : GroupIx}

theorem State.reference_pilot {f : FlowIx} (hpilot : (s.group g).pilot = some f) (hf : s.candidate g f = true) :
    s.reference g = some f := by
  simp only [State.reference, hpilot, hf, if_true]

/-- A pilot that is no candidate leaves the reference to the lowest. -/
theorem State.reference_of_pilot_out (hpilot : ∀ p, (s.group g).pilot = some p → s.candidate g p = false) :
    s.reference g = allFlows.find? (s.candidate g) := by
  cases hp : (s.group g).pilot with
  | none => simp only [State.reference, hp]
  | some p => simp only [State.reference, hp, hpilot p hp, Bool.false_eq_true, if_false]

theorem State.reference_lowest {f : FlowIx} (hpilot : ∀ p, (s.group g).pilot = some p → s.candidate g p = false)
    (hf : s.candidate g f = true) (hlow : ∀ x, x < f → s.candidate g x = false) : s.reference g = some f := by
  rw [State.reference_of_pilot_out hpilot, find?_allFlows _ f hf hlow]

theorem State.reference_none (hnone : ∀ f, s.candidate g f = false) : s.reference g = none := by
  rw [State.reference_of_pilot_out fun p _ => hnone p, List.find?_eq_none]
  exact fun f _ => Bool.eq_false_iff.1 (hnone f)

end

/-! ### The answer of GROUP_GET (Tables 10-6 and 11-4) -/

section
variable (s : State) (g : GroupIx)

theorem State.members_eq :
    s.members g = allFlows.filter fun f =>
      (s.flow f).rt.state.enabled && decide ((s.flow f).record.group = some g) := by
  refine List.filter_congr fun f _ => ?_
  rw [State.isMember, Bool.beq_eq_decide_eq]

theorem State.length_groupData : (s.groupData g).length = 10 + (s.members g).length := by
  rw [State.groupData, List.length_append, List.length_map]
  rfl

theorem State.drop_groupData : (s.groupData g).drop 10 = (s.members g).map fun f => natByte f.val := rfl

theorem State.byteAt_groupData_reference : byteAt (s.groupData g) 8 = flowByte (s.reference g) := rfl

@[simp] theorem State.groupData_reloaded (c : QueuedCommand) : (s.reloaded c).groupData g = s.groupData g := by
  unfold State.reloaded; split <;> rfl

end

section
variable {s : State} {c : QueuedCommand} (h : s.inTurn c) (hc : c.code = 0x08) (hl : c.length = 1)
include h hc hl

theorem exec_groupGet_badIndex (hix : 8 ≤ (byteAt c.params 0).toNat) :
    exec .groupGet s = .next ((s.reloaded c).answered c .badIndex 0 []) := by
  refine congrArg Host.Outcome.next ((State.execute_reads s _ h hc hl).trans ?_)
  simp only [QueuedCommand.param, (byteGroup_eq_none_iff _).2 hix, State.refuse_eq]

theorem exec_groupGet_done {g : GroupIx} (hg : (byteAt c.params 0).toNat = g.val) :
    exec .groupGet s = .next ((s.reloaded c).answered c .done 0 (s.groupData g)) := by
  refine congrArg Host.Outcome.next ((State.execute_reads s _ h hc hl).trans ?_)
  simp only [QueuedCommand.param, (byteGroup_eq_some_iff _ g).2 hg, State.complete_eq, State.groupData_reloaded]

end

/-- Settles O48: an index in range is answered with the summary of the flow, or with the group, its reference and its
members, each item where Table 11-4 puts it; any other index is refused. -/
theorem flowAndGroupGetReport : Obligations.FlowAndGroupGetReport := by
  unfold Obligations.FlowAndGroupGetReport
  refine ⟨fun s c hturn hcode hlen => ⟨exec_flowGet_badIndex hturn hcode hlen, fun f hf => ?flow⟩,
    fun s c hturn hcode hlen => ⟨exec_groupGet_badIndex hturn hcode hlen, fun g hg => ?group⟩⟩
  case flow =>
    intro fl
    refine ⟨fl.summary, exec_flowGet_done hturn hcode hlen hf, fl.length_summary, fl.take_summary,
      ⟨?tag, rfl, rfl, rfl, rfl, rfl, rfl, ?exit, ?conceal, ?late, ?cut, ?tap, ?crc, rfl, rfl⟩, rfl, rfl, ?head,
      rfl, rfl, rfl, rfl, rfl, fun b hb => ?headHeld, fun hb => ?headNotHeld⟩
    case tag | late | cut | head => exact halfAt_of_bytes rfl rfl
    case exit =>
      change flagByte (fl.record.exit == .reprime) = _
      cases fl.record.exit <;> rfl
    case conceal =>
      change flagByte (fl.record.conceal == .silence) = _
      cases fl.record.conceal <;> rfl
    case tap =>
      change flagByte (fl.record.tap == .take) = _
      cases fl.record.tap <;> rfl
    case crc =>
      change flagByte (fl.record.crc == .keep) = _
      cases fl.record.crc <;> rfl
    case headHeld => rw [fl.byteAt_summary_crcBad, Window.headCrcBad_held hb, flagByte]
    case headNotHeld => rw [fl.byteAt_summary_crcBad, Window.headCrcBad_of_not_held hb]; rfl
  case group =>
    rw [← s.members_eq g]
    intro gr members plays
    have hplays (f : FlowIx) : s.candidate g f = true ↔ plays f := s.candidate_iff g f
    have hidle {f : FlowIx} (h : ¬ plays f) : s.candidate g f = false := Bool.eq_false_iff.2 fun hc => h ((hplays f).1 hc)
    have reported {x : Option FlowIx} (h : s.reference g = x) :
        s.reference g = x ∧ byteAt (s.groupData g) 8 = flowByte x := ⟨h, h ▸ s.byteAt_groupData_reference g⟩
    refine ⟨s.groupData g, exec_groupGet_done hturn hcode hlen hg, s.length_groupData g, ?state, rfl, rfl, rfl, rfl, rfl,
      rfl, rfl, fun f hp hf => ?pilot, fun f hp hf hlow => ?lowest, fun hnone => ?none, rfl,
      s.drop_groupData g⟩
    case state =>
      change flagByte (gr.state == .running) = _
      cases gr.state <;> rfl
    case pilot => exact reported (State.reference_pilot hp ((hplays f).2 hf))
    case lowest =>
      exact reported (State.reference_lowest (fun p h => hidle (hp p h)) ((hplays f).2 hf) fun x h => hidle (hlow x h))
    case none => exact reported (State.reference_none fun f => hidle (hnone f))

end Sys2Proof.Machine
end

section
/-! One step (log entry 1), the reset (R58 and the reset tables), and the laws at reset. -/

namespace Sys2Proof.Machine

/-- Settles O1: the front of the queue decides which branch of the step is taken. -/
theorem stepTakesFrontCommand : Obligations.StepTakesFrontCommand := by
  unfold Obligations.StepTakesFrontCommand
  refine ⟨fun _ _ _ => rfl, fun s h => ?_⟩
  rw [step, h]

/-! ### The state after reset -/

@[simp] theorem State.flow_reset (f : FlowIx) : State.reset.flow f = Flow.reset := by
  simp [State.flow, State.reset]

@[simp] theorem State.group_reset (g : GroupIx) : State.reset.group g = Group.reset := by
  simp [State.group, State.reset]

theorem exec_pinReset (s : State) :
    exec .pinReset s = .next { State.reset with
      ring := RingPort.enterDown { RingPort.reset with carrier := s.ring.carrier }
      choices := s.choices
      pending := s.pending } := rfl

/-- Settles O3: the carrier level decides the receive state, and every other value is a constant of the reset tables. -/
theorem pinResetSetsEveryBlock : Obligations.PinResetSetsEveryBlock := by
  unfold Obligations.PinResetSetsEveryBlock
  intro s
  refine ⟨_, exec_pinReset s, fun f => State.flow_reset f, rfl, fun g => State.group_reset g, ⟨rfl, rfl, rfl, rfl, rfl⟩,
    ?ring, rfl, rfl⟩
  case ring => cases h : s.ring.carrier <;> simp [RingPort.enterDown, RingPort.reset]

/-! ### The laws at reset -/

@[simp] theorem Flow.entryAt_reset (k : Nat) : Flow.reset.window.entryAt k = .empty := Window.entryAt_none 0 k

theorem Flow.lawful_reset : Flow.reset.Lawful :=
  ⟨by decide, fun k _ => Flow.entryAt_reset k, by decide, fun _ => Flow.entryAt_reset,
    fun k h => absurd ((Flow.entryAt_reset k).symm.trans h) Entry.noConfusion⟩

theorem Flow.headLawful_reset : Flow.reset.HeadLawful :=
  ⟨fun h => absurd h (by decide), fun h => absurd h (by decide)⟩

theorem Flow.readLawful_reset : Flow.reset.ReadLawful :=
  ⟨fun k _ h => absurd ((Flow.entryAt_reset k).symm.trans h) Entry.noConfusion,
    fun _ h => Option.noConfusion rfl (heq_of_eq h),
    fun h => Bool.noConfusion h, fun _ => ⟨rfl, rfl⟩⟩

theorem State.candidate_reset (g : GroupIx) (f : FlowIx) : State.reset.candidate g f = false := by
  simp [State.candidate, Flow.reset, Runtime.reset, FlowState.playsOrHolds]

theorem sum_map_allFlows_eq_zero {v : FlowIx → Nat} (h : ∀ f, v f = 0) : (allFlows.map v).sum = 0 := by
  rw [List.sum_eq_zero_iff]
  simpa using fun f _ => h f

theorem State.poolLawful_reset : State.reset.PoolLawful := by
  have hheld : State.reset.heldTotal = 0 := sum_map_allFlows_eq_zero fun f => by rw [State.flow_reset]; rfl
  have howed : State.reset.outstanding = 0 := sum_map_allFlows_eq_zero fun f => by rw [State.flow_reset]; rfl
  refine ⟨fun f => by rw [State.flow_reset]; exact Flow.lawful_reset, by rw [hheld]; rfl,
    by rw [howed]; exact Nat.zero_le _⟩

theorem State.drainLawful_reset : State.reset.DrainLawful :=
  ⟨fun f => by rw [State.flow_reset]; exact ⟨fun h => Bool.noConfusion h,
    fun h => Option.noConfusion rfl (heq_of_eq h)⟩,
    fun _ h => Option.noConfusion rfl (heq_of_eq h)⟩

theorem State.referencesLawful_reset : State.reset.ReferencesLawful := by
  intro g
  rw [State.group_reset, State.reference_none (State.candidate_reset g)]
  simp [Group.reset]

/-- Settles O4: at reset nothing is held, nobody plays and nothing waits, so each law holds on empty ground. -/
theorem lawsHoldAtReset : Obligations.LawsHoldAtReset := by
  unfold Obligations.LawsHoldAtReset
  refine ⟨State.poolLawful_reset, fun f => ?heads, fun f => ?reads, ?tags, fun g => ?groups,
    State.referencesLawful_reset,
    ?mgmt, State.drainLawful_reset, ?claim, ?notice, ?numbers⟩
  case heads => rw [State.flow_reset]; exact Flow.headLawful_reset
  case reads => rw [State.flow_reset]; exact Flow.readLawful_reset
  case tags => exact ⟨fun f h => absurd h (by simp [Flow.reset, Runtime.reset, FlowState.matchable,
      FlowState.enabled, FlowState.isDraining]), fun f g h => absurd h (by simp [Flow.reset, Runtime.reset,
      FlowState.matchable, FlowState.enabled, FlowState.isDraining])⟩
  case groups => rw [State.group_reset]; exact ⟨by decide, by decide, fun _ => rfl⟩
  case mgmt => exact ⟨by decide, by decide, by decide, List.nodup_nil⟩
  case claim => exact ⟨fun _ => ⟨rfl, rfl⟩, fun h => absurd rfl h⟩
  case notice => exact ⟨by decide, by decide, fun _ _ => ⟨Nat.zero_le 1, Nat.zero_le 1⟩⟩
  case numbers => exact List.nodup_nil

end Sys2Proof.Machine
end

section
/-! Receive synchronisation (Table 7-2), the decision for a received frame (Table 7-3), and insertions (R118). -/

namespace Sys2Proof.Machine

/-! ### Receive synchronisation -/

section
variable {s : State} {frame : List Byte}

section
variable (hlen : frame.length = 308)
include hlen

theorem exec_frameReceived_down (h : s.ring.rx = .down) : exec (.frameReceived frame) s = .next s := by
  change execFrameReceived frame s = _
  rw [execFrameReceived, if_neg (not_not.2 hlen), h]

theorem exec_frameReceived_acquiring (h : s.ring.rx = .acquiring) :
    exec (.frameReceived frame) s = .next (s.acquire frame) := by
  change execFrameReceived frame s = _
  rw [execFrameReceived, if_neg (not_not.2 hlen), h]

theorem exec_frameReceived_bad (h : s.ring.rx = .up) (hbad : goodHeader frame = false) :
    exec (.frameReceived frame) s = .next s.badHeader := by
  change execFrameReceived frame s = _
  rw [execFrameReceived, if_neg (not_not.2 hlen), h]
  exact if_neg (Bool.eq_false_iff.1 hbad)

end

theorem State.acquire_counts (hgood : goodHeader frame = true) (hrun : s.ring.goodRun < 7) :
    s.acquire frame = s.withRing { s.ring with goodRun := s.ring.goodRun + 1 } := by
  rw [State.acquire, if_pos hgood, if_pos hrun]

theorem State.acquire_synchronises (hgood : goodHeader frame = true) (hrun : s.ring.goodRun = 7) :
    s.acquire frame =
      (s.withRing { s.ring with rx := .up, goodRun := 0, badRun := 0 }).withNotice
        (s.notice.take (ringInRaise true)) := by
  rw [State.acquire, if_pos hgood, if_neg (by omega)]
  rfl

theorem State.acquire_slips (hbad : goodHeader frame = false) :
    s.acquire frame = s.withRing { s.ring with goodRun := 0, alignment := (s.ring.alignment + 1) % 308 } := by
  rw [State.acquire, if_neg (Bool.eq_false_iff.1 hbad)]

theorem State.badHeader_counts (hrun : s.ring.badRun < 3) :
    s.badHeader = s.withRing { s.ring with badRun := s.ring.badRun + 1, headerErrors := s.ring.headerErrors + 1,
                                           ringOut := some (fillFrame s.ring.own) } :=
  if_pos hrun

/-- The fourth bad header in a row leaves UP; with the carrier present the unit is in ACQUIRING at once (R112). -/
theorem State.badHeader_leaves (hrun : s.ring.badRun = 3) :
    s.badHeader =
      (s.withRing { s.ring with
          badRun := 0, headerErrors := s.ring.headerErrors + 1, ringOut := some (fillFrame s.ring.own)
          rx := if s.ring.carrier = true then .acquiring else .down
          goodRun := if s.ring.carrier = true then 0 else s.ring.goodRun }).withNotice
        (s.notice.take (ringInRaise false)) := by
  have hleaves : ¬ s.ring.badRun < 3 := by omega
  refine (if_neg hleaves).trans ?_
  simp only [State.raise_eq, RingPort.enterDown]
  cases s.ring.carrier <;> simp [State.emit]

end

theorem exec_carrierPresent (s : State) :
    exec .carrierPresent s =
      .next (s.withRing (if s.ring.rx = .down then { s.ring with carrier := true, rx := .acquiring, goodRun := 0 }
        else { s.ring with carrier := true })) := rfl

/-- Settles O11: the receive state picks the row of Table 7-2, and the run of headers its case. -/
theorem receiveSynchronisationFollowsTable : Obligations.ReceiveSynchronisationFollowsTable := by
  unfold Obligations.ReceiveSynchronisationFollowsTable
  intro s frame hlen
  refine ⟨fun h => ⟨?_, exec_frameReceived_down hlen h⟩, fun h hgood hrun => ?_, fun h hgood hrun => ?_,
    fun h hbad => ?_, fun h => ?_, fun h hgood => exec_frameReceived_good h hlen hgood, fun h hbad hrun => ?_,
    fun h hbad hrun => ?_, fun h => ?_, fun h => ?_, fun h => ?_⟩
  · rw [exec_carrierPresent, if_pos h]
  · rw [exec_frameReceived_acquiring hlen h, State.acquire_counts hgood hrun]
  · rw [exec_frameReceived_acquiring hlen h, State.acquire_synchronises hgood hrun]; rfl
  · rw [exec_frameReceived_acquiring hlen h, State.acquire_slips hbad]
  · change execCarrierLoss s = _
    rw [execCarrierLoss, h]
  · rw [exec_frameReceived_bad hlen h hbad, State.badHeader_counts hrun]
  · rw [exec_frameReceived_bad hlen h hbad, State.badHeader_leaves hrun]; rfl
  · change execCarrierLoss s = _
    rw [execCarrierLoss, h]; rfl
  · rw [exec_carrierPresent, if_neg h]
  · change execCarrierLoss s = _
    rw [execCarrierLoss, h]

/-! ### The rows of Table 7-3 -/

section
variable {s : State} {frame : List Byte}

theorem State.decideFrame_fill (hkind : kindCode frame = 0) : s.decideFrame frame = s.insertFrame := if_pos hkind

section
variable (hkind : kindCode frame ≠ 0)
include hkind

theorem State.decideFrame_own (hown : s.ring.own ≠ 63 ∧ frameOrigin frame = s.ring.own) :
    s.decideFrame frame = s.insertFrame := by
  rw [← State.assigned_iff] at hown
  rw [State.decideFrame, if_neg hkind, if_pos hown]

variable (hown : ¬ (s.ring.own ≠ 63 ∧ frameOrigin frame = s.ring.own))
include hown

theorem State.decideFrame_orphan (hhop : hopCount frame = 63) :
    s.decideFrame frame = (s.withRing { s.ring with orphans := s.ring.orphans + 1 }).insertFrame := by
  rw [← State.assigned_iff] at hown
  rw [State.decideFrame, if_neg hkind, if_neg hown, if_pos hhop]

end

section
variable (hkind : kindCode frame = 1) (hown : ¬ (s.ring.own ≠ 63 ∧ frameOrigin frame = s.ring.own))
  (hhop : hopCount frame ≠ 63)
include hkind hown hhop

theorem State.decideFrame_unmatched (htag : s.holderOfTag (sampleTag frame) = none) :
    s.decideFrame frame = s.emit (forwardFrame frame) := by
  rw [← State.assigned_iff] at hown
  simp [State.decideFrame, hkind, hown, hhop, htag]

theorem State.decideFrame_tapped {f : FlowIx} (htag : s.holderOfTag (sampleTag frame) = some f)
    (htap : (s.flow f).record.tap = .tap) : s.decideFrame frame = (s.matched f frame).emit (forwardFrame frame) := by
  rw [← State.assigned_iff] at hown
  simp [State.decideFrame, hkind, hown, hhop, htag, htap]

theorem State.decideFrame_taken {f : FlowIx} (htag : s.holderOfTag (sampleTag frame) = some f)
    (htap : (s.flow f).record.tap = .take) : s.decideFrame frame = (s.matched f frame).insertFrame := by
  rw [← State.assigned_iff] at hown
  simp [State.decideFrame, hkind, hown, hhop, htag, htap]

end

section
variable (hkind : kindCode frame = 2) (hown : ¬ (s.ring.own ≠ 63 ∧ frameOrigin frame = s.ring.own))
  (hhop : hopCount frame ≠ 63)
include hkind hown hhop

theorem State.decideFrame_commandToOwn (hassigned : s.ring.own ≠ 63) (hdest : frameDest frame = s.ring.own) :
    s.decideFrame frame = (s.takeCommand frame).insertFrame := by
  have hu := s.assigned_of hassigned
  have horigin : frameOrigin frame ≠ s.ring.own := fun h => hown ⟨hassigned, h⟩
  simp [State.decideFrame, hkind, hu, horigin, hhop, hdest]

theorem State.decideFrame_commandToAll (hassigned : s.ring.own ≠ 63) (hdest : frameDest frame = 62)
    (h62 : s.ring.own ≠ 62) : s.decideFrame frame = (s.takeCommand frame).emit (forwardFrame frame) := by
  have hu := s.assigned_of hassigned
  have horigin : frameOrigin frame ≠ s.ring.own := fun h => hown ⟨hassigned, h⟩
  have hnotOwn : ¬ (62 : Addr) = s.ring.own := Ne.symm h62
  simp only [State.decideFrame, hkind, hu, horigin, hhop, hdest, hnotOwn]
  rfl

theorem State.decideFrame_commandToOther
    (hother : s.ring.own = 63 ∨ (frameDest frame ≠ s.ring.own ∧ frameDest frame ≠ 62)) :
    s.decideFrame frame = s.emit (forwardFrame frame) := by
  rw [← State.assigned_iff] at hown
  obtain h63 | ⟨hdest, h62⟩ := hother
  · simp [State.decideFrame, hkind, s.not_assigned_of h63, hhop]
  · simp only [State.decideFrame, hkind, hown, hhop, hdest, h62, and_false]
    rfl

end

theorem State.decideFrame_answerOrNotice (hkind : kindCode frame = 3 ∨ kindCode frame = 4)
    (hown : ¬ (s.ring.own ≠ 63 ∧ frameOrigin frame = s.ring.own)) (hhop : hopCount frame ≠ 63) :
    s.decideFrame frame = s.emit (forwardFrame frame) := by
  rw [← State.assigned_iff] at hown
  obtain hkind | hkind := hkind <;> simp [State.decideFrame, hkind, hown, hhop]

end

/-- Settles O12: a good header in UP brings the frame to the table; its first row that holds decides. -/
theorem receivedFrameIsDecidedByTable : Obligations.ReceivedFrameIsDecidedByTable := by
  unfold Obligations.ReceivedFrameIsDecidedByTable
  intro s frame hup hlen hgood X own
  rw [exec_frameReceived_good hup hlen hgood]
  have next {t : State} (h : X.decideFrame frame = t) :
      (Host.Outcome.next (X.decideFrame frame) : Host.Outcome State Fault Refusal) = .next t := congrArg _ h
  exact ⟨fun hk => next (State.decideFrame_fill (s := X) hk), fun hk ho => next (State.decideFrame_own (s := X) hk ho),
    fun hk ho hh => next (State.decideFrame_orphan (s := X) hk ho hh),
    fun hk ho hh => ⟨fun ht => next (State.decideFrame_unmatched (s := X) hk ho hh ht),
      fun f ht htap => next (State.decideFrame_tapped (s := X) hk ho hh ht htap),
      fun f ht htap => next (State.decideFrame_taken (s := X) hk ho hh ht htap)⟩,
    fun hk ho hh ha hd => next (State.decideFrame_commandToOwn (s := X) hk ho hh ha hd),
    fun hk ho hh ha hd h62 => next (State.decideFrame_commandToAll (s := X) hk ho hh ha hd h62),
    fun hk ho hh => next (State.decideFrame_rollcall (s := X) hk ho hh),
    fun hk ho hh hd => next (State.decideFrame_commandToOther (s := X) hk ho hh hd),
    fun hk ho hh => next (State.decideFrame_answerOrNotice (s := X) hk ho hh)⟩

/-! ### Insertions -/

section
variable {s : State}

theorem State.insertFrame_unassigned (h : s.ring.own = 63) :
    s.insertFrame = s.withRing { s.ring with ringOut := some (fillFrame 63) } := by
  rw [State.insertFrame, if_neg (Bool.eq_false_iff.1 (s.not_assigned_of h)), h]
  rfl

section
variable (h : s.ring.own ≠ 63)
include h

theorem State.insertFrame_answer {a : Answer} {rest : List Answer} (ha : s.ring.answers = a :: rest) :
    s.insertFrame = s.withRing { s.ring with answers := rest, ringOut := some (answerFrame s.ring.own a) } := by
  rw [State.insertFrame, if_pos (s.assigned_of h), ha]
  rfl

theorem State.insertFrame_notice (ha : s.ring.answers = []) {o : Offer} (ho : s.notice.offer = some o) :
    s.insertFrame = (s.withRing { s.ring with ringOut := some (noticeFrame s.ring.own o) }).withNotice
      { s.notice with offer := none } := by
  rw [State.insertFrame, if_pos (s.assigned_of h), ha, ho]
  rfl

theorem State.insertFrame_fill (ha : s.ring.answers = []) (ho : s.notice.offer = none) :
    s.insertFrame = s.withRing { s.ring with ringOut := some (fillFrame s.ring.own) } := by
  rw [State.insertFrame, if_pos (s.assigned_of h), ha, ho]
  rfl

end
end

theorem exec_ownRateFrame (s : State) :
    exec .ownRateFrame s = .next (if s.ring.rx = .up then s else s.insertFrame) := by
  change execOwnRateFrame s = _
  unfold execOwnRateFrame
  split <;> rfl

/-- Settles O13: what waits is looked for in the order of R118, by an assigned unit alone. -/
theorem insertionPrefersAnswerThenNotice : Obligations.InsertionPrefersAnswerThenNotice := by
  unfold Obligations.InsertionPrefersAnswerThenNotice
  refine ⟨⟨fun s h => ?up, fun s h => ?ownRate, fun s frame hup hlen hgood hkind => ?fill⟩, fun s =>
    ⟨fun h a rest => State.insertFrame_answer h, fun h ha o => State.insertFrame_notice h ha,
      State.insertFrame_fill, State.insertFrame_unassigned⟩⟩
  case up => rw [exec_ownRateFrame, if_pos h]
  case ownRate => rw [exec_ownRateFrame, if_neg h]
  case fill => exact (exec_frameReceived_good hup hlen hgood).trans (congrArg _ (State.decideFrame_fill hkind))

/-! ### New commands (R130) -/

section
variable {s : State} {c : QueuedCommand}

theorem State.takeNew_queues (hroom : s.answerRoom ≠ 0) (hqueue : s.mgmt.queue.length < 4) :
    s.takeNew c = s.withMgmt { s.mgmt with queue := s.mgmt.queue ++ [c] } := by
  rw [State.takeNew, if_neg hroom, if_pos hqueue]

theorem State.takeNew_refuses (hroom : s.answerRoom ≠ 0) (hqueue : 4 ≤ s.mgmt.queue.length) :
    s.takeNew c = s.appendAnswer (answerTo c .queueFull 0 []) := by
  rw [State.takeNew, if_neg hroom, if_neg hqueue.not_gt]

theorem State.takeNew_drops (hroom : s.answerRoom = 0) : s.takeNew c = s.loseCommand := if_pos hroom

end

theorem State.takeCommand_new (s : State) {frame : List Byte} (hbody : bodyGood frame = true)
    (horigin : ¬ ((frameCommand frame).origin = 62 ∨ (frameCommand frame).origin = 63))
    (hcode : (frameCommand frame).code ≠ 0x11) (hqueued : ¬ s.mgmt.Queues (frameCommand frame))
    (hcached : cachedAnswer s.mgmt.cache (frameCommand frame) = none) :
    s.takeCommand frame = s.takeNew (frameCommand frame) := by
  simp only [State.takeCommand, hbody, Bool.not_true, Bool.false_eq_true, if_false, if_neg horigin, if_neg hcode,
    if_neg (mt (Mgmt.queues_iff_any _ _).2 hqueued), hcached]

theorem cachedAnswer_eq_none {cache : List Answer} {c : QueuedCommand}
    (h : ∀ a ∈ cache, ¬ (a.dest = c.origin ∧ a.tag = c.tag)) : cachedAnswer cache c = none :=
  List.find?_eq_none.2 fun a ha => by simpa using h a ha

/-- Settles O17: the frame passes every check before R130, and the answer room and the commands held decide. -/
theorem newCommandNeedsAnswerRoom : Obligations.NewCommandNeedsAnswerRoom := by
  unfold Obligations.NewCommandNeedsAnswerRoom
  intro s frame hbody h62 h63 hcode hqueue hcache room length
  have hnew : ¬ s.mgmt.Queues (frameCommand frame) := fun ⟨q, hq, hkey⟩ => hqueue q hq hkey
  rw [s.takeCommand_new hbody (not_or.2 ⟨h62, h63⟩) hcode hnew (cachedAnswer_eq_none hcache)]
  exact ⟨fun hroom => State.takeNew_queues (Nat.one_le_iff_ne_zero.1 hroom),
    fun hroom => State.takeNew_refuses (Nat.one_le_iff_ne_zero.1 hroom), State.takeNew_drops⟩

end Sys2Proof.Machine
end

section
/-! The frames the unit sends (R117, R118, R170, R171): where the fields of a frame it builds stand. -/

namespace Sys2Proof.Machine

/-! ### Bodies -/

@[simp] theorem length_padTo (n : Nat) (bs : List Byte) : (padTo n bs).length = n := by
  simp only [padTo, List.length_take, List.length_append, List.length_replicate]
  omega

theorem byteAt_padTo {n : Nat} (bs : List Byte) {i : Nat} (h : i < n) : byteAt (padTo n bs) i = byteAt bs i := by
  have htake : (padTo n bs)[i]? = (bs ++ List.replicate (n - bs.length) 0)[i]? := List.getElem?_take_of_lt h
  rw [byteAt, byteAt, List.getD_eq_getElem?_getD, List.getD_eq_getElem?_getD, htake]
  by_cases hi : i < bs.length
  · rw [List.getElem?_append_left hi]
  · have hpad : i - bs.length < n - bs.length := by omega
    rw [List.getElem?_append_right (Nat.le_of_not_lt hi), List.getElem?_replicate, if_pos hpad,
      List.getElem?_eq_none (Nat.le_of_not_lt hi)]
    rfl

/-! ### A frame of nine header bytes and a body (R171) -/

section
variable {nine body : List Byte} (hnine : nine.length = 9)
include hnine

theorem byteAt_buildFrame_header {i : Nat} (h : i < 9) : byteAt (buildFrame nine body) i = byteAt nine i := by
  have hi : i < nine.length := hnine.symm ▸ h
  simp [buildFrame, withHeaderCheck, byteAt, List.getD_eq_getElem?_getD, List.getElem?_append_left hi]

theorem byteAt_buildFrame_check : byteAt (buildFrame nine body) 9 = headerCheck nine := by
  simp [buildFrame, withHeaderCheck, byteAt, List.getD_eq_getElem?_getD, hnine]

theorem headerCheck_buildFrame : headerCheck (buildFrame nine body) = headerCheck nine := by
  have hsame : (buildFrame nine body).take 9 = nine.take 9 := by simp [buildFrame, withHeaderCheck, hnine]
  rw [headerCheck, headerCheck, hsame]

theorem drop_buildFrame : (buildFrame nine body).drop 10 = body ++ halfBytes (bodyCrc body) := by
  have hheader : (withHeaderCheck nine).length = 10 := by simp [withHeaderCheck, hnine]
  rw [buildFrame, List.append_assoc, ← hheader, List.drop_left]

theorem byteAt_buildFrame_behind (i : Nat) :
    byteAt (buildFrame nine body) (10 + i) = byteAt (body ++ halfBytes (bodyCrc body)) i := by
  rw [← drop_buildFrame hnine, byteAt, byteAt, List.getD_eq_getElem?_getD, List.getD_eq_getElem?_getD,
    List.getElem?_drop]

variable (hbody : body.length = 296)
include hbody

theorem byteAt_buildFrame_body {i : Nat} (h : i < 296) : byteAt (buildFrame nine body) (10 + i) = byteAt body i := by
  rw [byteAt_buildFrame_behind hnine]
  exact List.getD_append _ _ _ _ (hbody.symm ▸ h)

theorem length_buildFrame : (buildFrame nine body).length = 308 := by
  simp [buildFrame, withHeaderCheck, hnine, hbody, halfBytes]

theorem bodyGood_buildFrame : bodyGood (buildFrame nine body) = true := by
  have hframeBody : frameBody (buildFrame nine body) = body := by
    rw [frameBody, drop_buildFrame hnine, ← hbody, List.take_left]
  have hcheck (j : Nat) : byteAt (buildFrame nine body) (306 + j) = byteAt (halfBytes (bodyCrc body)) j := by
    have hplace : 306 + j = 10 + (296 + j) := by omega
    rw [hplace, byteAt_buildFrame_behind hnine, byteAt, List.getD_append_right _ _ _ _ (by omega), hbody,
      Nat.add_sub_cancel_left]
    rfl
  rw [bodyGood, hframeBody, beq_iff_eq]
  exact (halfAt_of_bytes (hcheck 0) (hcheck 1)).symm

end

/-! ### The frames the unit inserts -/

theorem byteAddr_addrByte (a : Addr) : byteAddr (addrByte a) = a := by
  apply BitVec.eq_of_toNat_eq
  simp [byteAddr, addrByte]
  omega

/-- A frame of the unit's own: the kind and the four bytes its kind gives a meaning, hop count 0, the own address as
origin (Table 11-1). -/
def ownFrame (own : Addr) (kind : Byte) (dest : Addr) (b₄ b₅ b₆ b₇ : Byte) (data : List Byte) : List Byte :=
  buildFrame [kind, 0, addrByte own, addrByte dest, b₄, b₅, b₆, b₇, 0] (padTo 296 data)

theorem answerFrame_eq (own : Addr) (a : Answer) :
    answerFrame own a = ownFrame own 0x60 a.dest a.tag a.code (statusCode a.status) a.detail a.data := rfl

theorem noticeFrame_eq (own : Addr) (o : Offer) :
    noticeFrame own o =
      ownFrame own 0x80 o.dest o.number (natByte (noticeCode o.kind)) (subjectByte o.subject) o.detail
        [natByte o.repeats] := rfl

section
variable (own : Addr) (kind : Byte) (dest : Addr) (b₄ b₅ b₆ b₇ : Byte) (data : List Byte)

theorem byteAt_ownFrame_header {i : Nat} (h : i < 9) :
    byteAt (ownFrame own kind dest b₄ b₅ b₆ b₇ data) i =
      byteAt [kind, 0, addrByte own, addrByte dest, b₄, b₅, b₆, b₇, 0] i := byteAt_buildFrame_header rfl h

theorem byteAt_ownFrame_body {i : Nat} (h : i < 296) :
    byteAt (ownFrame own kind dest b₄ b₅ b₆ b₇ data) (10 + i) = byteAt data i :=
  (byteAt_buildFrame_body rfl (length_padTo 296 data) h).trans (byteAt_padTo data h)

theorem kindCode_ownFrame :
    kindCode (ownFrame own kind dest b₄ b₅ b₆ b₇ data) = (kind.extractLsb' 5 3).toNat := by
  rw [kindCode, byteAt_ownFrame_header _ _ _ _ _ _ _ _ (by decide)]
  rfl

theorem frameDest_ownFrame : frameDest (ownFrame own kind dest b₄ b₅ b₆ b₇ data) = dest := by
  rw [frameDest, byteAt_ownFrame_header _ _ _ _ _ _ _ _ (by decide)]
  exact byteAddr_addrByte dest

theorem hopCount_ownFrame : hopCount (ownFrame own kind dest b₄ b₅ b₆ b₇ data) = 0 := by
  rw [hopCount, byteAt_ownFrame_header _ _ _ _ _ _ _ _ (by decide)]
  rfl

theorem frameOrigin_ownFrame : frameOrigin (ownFrame own kind dest b₄ b₅ b₆ b₇ data) = own := by
  rw [frameOrigin, byteAt_ownFrame_header _ _ _ _ _ _ _ _ (by decide)]
  exact byteAddr_addrByte own

/-- Both checks of a frame the unit builds are good, whatever the fields of its kind are. -/
theorem ownFrame_wellFormed (hkind : (kind.extractLsb' 5 3).toNat ≤ 5) :
    (ownFrame own kind dest b₄ b₅ b₆ b₇ data).length = 308 ∧
      goodHeader (ownFrame own kind dest b₄ b₅ b₆ b₇ data) = true ∧
      bodyGood (ownFrame own kind dest b₄ b₅ b₆ b₇ data) = true ∧
      hopCount (ownFrame own kind dest b₄ b₅ b₆ b₇ data) = 0 ∧
      frameOrigin (ownFrame own kind dest b₄ b₅ b₆ b₇ data) = own := by
  have hcheck : headerCheck (ownFrame own kind dest b₄ b₅ b₆ b₇ data) =
      byteAt (ownFrame own kind dest b₄ b₅ b₆ b₇ data) 9 :=
    (headerCheck_buildFrame rfl).trans (byteAt_buildFrame_check rfl).symm
  refine ⟨length_buildFrame rfl (length_padTo 296 data), ?_, bodyGood_buildFrame rfl (length_padTo 296 data),
    hopCount_ownFrame _ _ _ _ _ _ _ _, frameOrigin_ownFrame _ _ _ _ _ _ _ _⟩
  rw [goodHeader, hcheck, kindCode_ownFrame, hopCount_ownFrame, beq_self_eq_true, decide_eq_true hkind]
  rfl

end

/-- Past the data it carries, the body of a frame the unit builds is zeros. -/
theorem byteAt_ownFrame_zero {own : Addr} {kind : Byte} {dest : Addr} {b₄ b₅ b₆ b₇ : Byte} {data : List Byte} {i : Nat}
    (hlow : 10 + data.length ≤ i) (hhigh : i < 306) : byteAt (ownFrame own kind dest b₄ b₅ b₆ b₇ data) i = 0 := by
  obtain ⟨j, rfl⟩ := Nat.exists_eq_add_of_le (show 10 ≤ i by omega)
  rw [byteAt_ownFrame_body _ _ _ _ _ _ _ _ (by omega), byteAt, List.getD_eq_default _ _ (by omega)]

/-- Settles O14: each inserted frame is built of nine header bytes and a padded body, and a forwarded one differs from
the received one in its hop count and its check alone. -/
theorem sentFramesAreWellFormed : Obligations.SentFramesAreWellFormed := by
  unfold Obligations.SentFramesAreWellFormed
  refine ⟨fun own a o => ⟨fun frame hframe => ?wellFormed, ?fill, ?answer, ?notice⟩,
    fun frame hlen hgood hhop => ?forward⟩
  case wellFormed =>
    simp only [List.mem_cons, List.not_mem_nil, or_false] at hframe
    obtain rfl | rfl | rfl := hframe
    · exact ownFrame_wellFormed _ _ _ _ _ _ _ _ (by decide)
    · exact ownFrame_wellFormed _ _ _ _ _ _ _ _ (by decide)
    · exact ownFrame_wellFormed _ _ _ _ _ _ _ _ (by decide)
  case fill =>
    exact ⟨kindCode_ownFrame _ _ _ _ _ _ _ _, frameDest_ownFrame _ _ _ _ _ _ _ _,
      fun i hlow hhigh => byteAt_ownFrame_zero hlow hhigh⟩
  case answer =>
    rw [answerFrame_eq]
    have header {i : Nat} (h : i < 9) := byteAt_ownFrame_header own 0x60 a.dest a.tag a.code (statusCode a.status)
      a.detail a.data h
    refine ⟨kindCode_ownFrame _ _ _ _ _ _ _ _, frameDest_ownFrame _ _ _ _ _ _ _ _, header (by decide),
      header (by decide), (header (by decide)).trans ?_, header (by decide),
      fun i => byteAt_ownFrame_body _ _ _ _ _ _ _ _⟩
    cases a.status <;> rfl
  case notice =>
    rw [noticeFrame_eq]
    have header {i : Nat} (h : i < 9) := byteAt_ownFrame_header own 0x80 o.dest o.number (natByte (noticeCode o.kind))
      (subjectByte o.subject) o.detail [natByte o.repeats] h
    refine ⟨kindCode_ownFrame _ _ _ _ _ _ _ _, frameDest_ownFrame _ _ _ _ _ _ _ _, header (by decide), ?_,
      header (by decide), ?_, header (by decide),
      byteAt_ownFrame_body own 0x80 o.dest o.number _ _ o.detail [natByte o.repeats] (i := 0) (by decide),
      fun i hlow hhigh => byteAt_ownFrame_zero hlow hhigh⟩
    · cases o.kind <;> rfl
    · refine (header (by decide)).trans ?_
      cases o.subject <;> rfl
  case forward =>
    have hlen10 : 10 ≤ frame.length := hlen.symm ▸ by decide
    simp only [goodHeader, Bool.and_eq_true, decide_eq_true_eq] at hgood
    obtain ⟨⟨-, hkind⟩, -⟩ := hgood
    exact ⟨by simp [forwardFrame_eq_set hlen10, hlen], goodHeader_forwardFrame hlen10 hkind hhop,
      hopCount_forwardFrame hlen10 hhop, fun i => byteAt_forwardFrame hlen10⟩

end Sys2Proof.Machine
end

section
/-! Flow records in frames (Tables 1-1 and 11-8): a lawful record comes back as it went. -/

namespace Sys2Proof.Machine

theorem toNat_natByte {n : Nat} (h : n ≤ 255) : (natByte n).toNat = n := by
  simp only [natByte, BitVec.toNat_ofNat]
  omega

theorem halfAt_natHalfBytes_toNat {bs : List Byte} {i n : Nat} (h : n ≤ 65535)
    (hhigh : byteAt bs i = (BitVec.ofNat 16 n).extractLsb' 8 8)
    (hlow : byteAt bs (i + 1) = (BitVec.ofNat 16 n).extractLsb' 0 8) : (halfAt bs i).toNat = n := by
  rw [halfAt_of_bytes hhigh hlow, BitVec.toNat_ofNat]
  omega

theorem byteMode_modeByte (m : BlockMode) : byteMode (modeByte m) = some m := (byteMode_eq_some_iff _ m).2 rfl

theorem toNat_flagByte_le (b : Bool) : (flagByte b).toNat ≤ 1 := by cases b <;> decide

theorem byteGroup_groupByte (g : Option GroupIx) : byteGroup (groupByte g) = g := by
  cases g with
  | none => rfl
  | some g => exact (byteGroup_eq_some_iff _ g).2 (toNat_natByte (by omega))

theorem toNat_groupByte (g : Option GroupIx) : (groupByte g).toNat ≤ 7 ∨ (groupByte g).toNat = 255 := by
  cases g with
  | none => exact .inr rfl
  | some g => exact .inl ((toNat_natByte (by omega)).trans_le (by omega))

/-- The ranges of Table 1-1. -/
structure FlowRecord.InRange (r : FlowRecord) : Prop where
  channels : 1 ≤ r.channels ∧ r.channels ≤ 8
  depth : 2 ≤ r.depth ∧ r.depth ≤ 32
  prime : 1 ≤ r.prime ∧ r.prime ≤ r.depth
  holdLimit : 1 ≤ r.holdLimit ∧ r.holdLimit ≤ 64
  fade : r.fade ≤ 16 ∧ r.fade ≤ r.holdLimit
  late : r.late ≤ 65535
  cut : 1 ≤ r.cut ∧ r.cut ≤ 65535
  lateBeforeCut : r.late = 0 ∨ r.late < r.cut

section
variable {r : FlowRecord} (h : r.InRange)
include h

theorem FlowRecord.toNat_bytes :
    (byteAt (recordBytes r) 2).toNat = r.channels ∧ (byteAt (recordBytes r) 4).toNat = r.depth ∧
      (byteAt (recordBytes r) 5).toNat = r.prime ∧ (byteAt (recordBytes r) 6).toNat = r.holdLimit ∧
      (byteAt (recordBytes r) 7).toNat = r.fade ∧ (halfAt (recordBytes r) 10).toNat = r.late ∧
      (halfAt (recordBytes r) 12).toNat = r.cut := by
  obtain ⟨hch, hde, hpr, hho, hfa, hla, hcu, -⟩ := h
  exact ⟨toNat_natByte (by omega), toNat_natByte (by omega), toNat_natByte (by omega), toNat_natByte (by omega),
    toNat_natByte (by omega), halfAt_natHalfBytes_toNat hla rfl rfl, halfAt_natHalfBytes_toNat hcu.2 rfl rfl⟩

theorem recordFieldOk_recordBytes (id : Nat) : RecordFieldOk (recordBytes r) id := by
  obtain ⟨hchannels, hdepth, hprime, hhold, hfade, hlate, hcut⟩ := FlowRecord.toNat_bytes h
  have hmode : (byteAt (recordBytes r) 3).toNat ≤ 2 := by
    change (modeByte r.mode).toNat ≤ 2
    cases r.mode <;> decide
  simp only [RecordFieldOk, hchannels, hdepth, hprime, hhold, hfade, hlate, hcut]
  exact ⟨fun _ => h.channels, fun _ => hmode, fun _ => h.depth, fun _ => h.prime, fun _ => h.holdLimit, fun _ => h.fade,
    fun _ => toNat_flagByte_le _, fun _ => toNat_flagByte_le _, fun _ => ⟨h.cut.1, h.lateBeforeCut⟩,
    fun _ => toNat_flagByte_le _, fun _ => toNat_flagByte_le _, fun _ => toNat_groupByte r.group⟩

theorem parseRecord_recordBytes : parseRecord (recordBytes r) = r := by
  obtain ⟨hchannels, hdepth, hprime, hhold, hfade, hlate, hcut⟩ := FlowRecord.toNat_bytes h
  have htag : halfAt (recordBytes r) 0 = r.tag := halfAt_of_bytes rfl rfl
  have hmode : byteMode (byteAt (recordBytes r) 3) = some r.mode := byteMode_modeByte r.mode
  have hgroup : byteGroup (byteAt (recordBytes r) 16) = r.group := byteGroup_groupByte r.group
  have hexit : (if byteAt (recordBytes r) 8 = 1 then .reprime else .atOnce) = r.exit := by
    change (if flagByte (r.exit == .reprime) = 1 then .reprime else .atOnce) = r.exit
    cases r.exit <;> rfl
  have hconceal : (if byteAt (recordBytes r) 9 = 1 then .silence else .repeatLast) = r.conceal := by
    change (if flagByte (r.conceal == .silence) = 1 then .silence else .repeatLast) = r.conceal
    cases r.conceal <;> rfl
  have htap : (if byteAt (recordBytes r) 14 = 1 then .take else .tap) = r.tap := by
    change (if flagByte (r.tap == .take) = 1 then .take else .tap) = r.tap
    cases r.tap <;> rfl
  have hcrc : (if byteAt (recordBytes r) 15 = 1 then .keep else .discard) = r.crc := by
    change (if flagByte (r.crc == .keep) = 1 then .keep else .discard) = r.crc
    cases r.crc <;> rfl
  simp only [parseRecord, htag, hchannels, hmode, hdepth, hprime, hhold, hfade, hexit, hconceal, hlate, hcut, htap,
    hcrc,
    hgroup, Option.getD_some]

end

/-- Settles O52: each field of the record is read from the bytes it was written to, and in its range. -/
theorem recordEncodingRoundTrips : Obligations.RecordEncodingRoundTrips := by
  unfold Obligations.RecordEncodingRoundTrips
  intro r hc1 hc8 hd2 hd32 hp1 hp hh1 hh64 hf16 hf hl hcut1 hcut hlate
  have h : r.InRange := ⟨⟨hc1, hc8⟩, ⟨hd2, hd32⟩, ⟨hp1, hp⟩, ⟨hh1, hh64⟩, ⟨hf16, hf⟩, hl, ⟨hcut1, hcut⟩, hlate⟩
  exact ⟨rfl, recordFault_eq_none (recordFieldOk_recordBytes h), parseRecord_recordBytes h⟩

end Sys2Proof.Machine
end

section
/-! Concealment (R66, R67), and the lane bit clock (R96, R101). -/

namespace Sys2Proof.Machine

/-! ### Concealment -/

theorem fadeSample_zero (stage fade : Nat) : fadeSample stage fade 0 = 0 := by simp [fadeSample]

theorem fadeSample_silent (fade : Nat) (x : Sample) : fadeSample 0 fade x = 0 := by simp [fadeSample]

/-- A sample scaled by a stage below F + 1 comes nearer to zero, so it stays within its 24 bits. -/
theorem toInt_fadeSample {stage fade : Nat} (x : Sample) (h : stage ≤ fade) :
    (fadeSample stage fade x).toInt = (x.toInt * stage).tdiv (fade + 1) := by
  have hx : x.toInt.natAbs ≤ 2 ^ 23 := by
    have hlow := x.le_toInt
    have hhigh := x.toInt_lt
    omega
  have hnear : ((x.toInt * stage).tdiv (fade + 1)).natAbs < 2 ^ 23 := by
    rw [Int.natAbs_tdiv, Int.natAbs_mul, Int.natAbs_natCast]
    have hden : ((fade : Int) + 1).natAbs = fade + 1 := by omega
    rw [hden]
    refine Nat.div_lt_of_lt_mul ?_
    calc x.toInt.natAbs * stage ≤ 2 ^ 23 * stage := Nat.mul_le_mul_right _ hx
      _ < 2 ^ 23 * (fade + 1) := Nat.mul_lt_mul_of_pos_left (Nat.lt_succ_of_le h) (by decide)
      _ = (fade + 1) * 2 ^ 23 := Nat.mul_comm _ _
  rw [fadeSample, BitVec.toInt_ofInt]
  exact Int.bmod_eq_of_le (by omega) (by omega)

section
variable {fl : Flow}

theorem Flow.getD_concealFrame (fl : Flow) (c : Nat) :
    fl.concealFrame.getD c 0 = fadeSample fl.rt.fadeStage fl.record.fade (fl.lastOrZeros.getD c 0) := by
  have hzero := fadeSample_zero fl.rt.fadeStage fl.record.fade
  rw [Flow.concealFrame]
  conv_lhs => rw [← hzero]
  exact List.getD_map _ _ _

theorem Flow.getD_lastOrZeros_none (h : fl.rt.lastFrame = none) (c : Nat) : fl.lastOrZeros.getD c 0 = 0 := by
  rw [Flow.lastOrZeros, h, Option.getD_none, List.getD_eq_getElem?_getD, List.getElem?_replicate]
  split <;> rfl

end

/-- Settles O34: sample by sample, the concealment frame is the last frame scaled, and the scale is the stage over
F + 1. -/
theorem concealmentFadesTowardZero : Obligations.ConcealmentFadesTowardZero := by
  unfold Obligations.ConcealmentFadesTowardZero
  refine ⟨fun fl => ⟨fun last hlast => ⟨?length, fun c _ => ?scaled⟩, fun hnone c => ?zeros, fun hstage c => ?silent⟩,
    fun r k lastLen x => ⟨?concealLength, fun h => ?silence, fun h _ hk => ?fading, fun h hk => ?faded,
      fun stage fade hstage _ => toInt_fadeSample x hstage⟩⟩
  case length => simp [Flow.concealFrame, Flow.lastOrZeros, hlast]
  case scaled => rw [Flow.getD_concealFrame, Flow.lastOrZeros, hlast, Option.getD_some]
  case zeros => rw [Flow.getD_concealFrame, Flow.getD_lastOrZeros_none hnone, fadeSample_zero]
  case silent => rw [Flow.getD_concealFrame, hstage, fadeSample_silent]
  case concealLength => cases hm : r.mode <;> simp only [concealLength, hm]
  case silence => simp only [fadeStageFor, h]
  case fading => simp only [fadeStageFor, h, if_pos hk]
  case faded => simp only [fadeStageFor, h, if_neg (Nat.not_le.2 hk)]

/-! ### The lane bit clock -/

section
variable {l : LaneUnit} {lane : Fin 4}

theorem LaneUnit.nextBit_at {p : Fin 16} {j : Fin 32} (h : l.bitPos = p.val * 32 + j.val) :
    l.nextBit lane = (l.words[lane.val * 16 + p.val]).getLsbD (31 - j.val) := by
  have hlt : l.bitPos < 512 := by omega
  have hword : l.bitPos / 32 = p.val := by omega
  have hbit : l.bitPos % 32 = j.val := by omega
  rw [LaneUnit.nextBit, dif_pos hlt]
  simp only [hword, hbit, BitVec.getMsbD, j.isLt, decide_true, Bool.true_and]

theorem LaneUnit.nextBit_behind (h : 512 ≤ l.bitPos) : l.nextBit lane = false := dif_neg h.not_gt

theorem LaneUnit.nextBit_zeroWords (h : l.words = Vector.replicate 64 0) : l.nextBit lane = false := by
  unfold LaneUnit.nextBit
  split
  · simp [h]
  · rfl

end

/-- Settles O36: the next bit of every lane, and the bit position one on as far as 512. -/
theorem bitClockSendsWordsInOrder : Obligations.BitClockSendsWordsInOrder := by
  unfold Obligations.BitClockSendsWordsInOrder
  intro s
  refine ⟨s.withLane { s.lane with out := Vector.ofFn s.lane.nextBit, bitPos := min 512 (s.lane.bitPos + 1) }, rfl,
    fun l p j h => ?_, fun l h => ?_, fun h => ?_, fun h => ?_, rfl⟩
  · simpa using LaneUnit.nextBit_at h
  · obtain h | h := h
    · simpa using LaneUnit.nextBit_behind h
    · simpa using LaneUnit.nextBit_zeroWords h
  · exact Nat.min_eq_right h
  · exact Nat.min_eq_left (by omega)

end Sys2Proof.Machine
end

section
/-! Windows (R23 to R26): the entries after each of their operations, and how many of them are HELD. -/

namespace Sys2Proof.Machine

/-! ### Entries -/

theorem Entry.isHeld_iff (e : Entry) : e.isHeld = true ↔ ∃ b, e = .held b := by cases e <;> simp [Entry.isHeld]

theorem Window.entryAt_of_ge (w : Window) {k : Nat} (h : 32 ≤ k) : w.entryAt k = .empty := dif_neg h.not_gt

@[simp] theorem Flow.entryAt_emptied (fl : Flow) (rt : Runtime) (k : Nat) :
    (fl.emptied rt).window.entryAt k = .empty := Window.entryAt_none _ k

theorem Window.entryAt_startingAt (b : Block) (k : Nat) :
    (Window.startingAt b).entryAt k = if k = 0 then .held b else .empty := by
  unfold Window.startingAt Window.entryAt noEntries
  by_cases hk : k < 32
  · by_cases h0 : k = 0
    · simp [h0]
    · simp [hk, h0, Vector.getElem_set_ne _ _ (Ne.symm h0)]
  · simp [hk, show k ≠ 0 by omega]

theorem Window.entryAt_rebased (w : Window) (depth n : Nat) (b : Block) {k : Nat} (hk : k < 32) :
    (w.rebased depth n b).entryAt k =
      if k = 0 then .held b else if n ≤ k ∧ k < depth then w.entryAt (k - n) else .empty := by
  unfold Window.rebased
  rw [Window.entryAt, dif_pos hk, Vector.getElem_ofFn]

theorem Window.entryAt_joined (w : Window) (depth : Nat) (h : Half) {k : Nat} (hk : k < 32) :
    (w.joined depth h).entryAt k =
      if k < depth ∧ 0 ≤ (k : Int) + seqOffset h w.head then
        (w.entryAt ((k : Int) + seqOffset h w.head).toNat).onlyHeld
      else .empty := by
  unfold Window.joined
  rw [Window.entryAt, dif_pos hk, Vector.getElem_ofFn]

theorem Entry.onlyHeld_eq_held_iff (e : Entry) (b : Block) : e.onlyHeld = .held b ↔ e = .held b := by
  cases e <;> simp [Entry.onlyHeld]

theorem Entry.isHeld_onlyHeld (e : Entry) : e.onlyHeld.isHeld = e.isHeld := by cases e <;> rfl

/-! ### The offsets of the HELD entries -/

/-- The offsets at which a window holds a block. -/
def Window.heldSet (w : Window) : Finset Nat := (Finset.range 32).filter fun k => (w.entryAt k).isHeld = true

theorem Window.mem_heldSet {w : Window} {k : Nat} : k ∈ w.heldSet ↔ (w.entryAt k).isHeld = true := by
  rw [Window.heldSet, Finset.mem_filter, Finset.mem_range, and_iff_right_iff_imp]
  intro h
  by_contra hk
  rw [w.entryAt_of_ge (Nat.le_of_not_lt hk)] at h
  exact Bool.noConfusion h

theorem card_filter_range (p : Nat → Bool) (n : Nat) :
    ((Finset.range n).filter fun k => p k = true).card = ((List.range n).filter p).length := by
  rw [Finset.card_def, Finset.filter_val, Finset.range_val]
  simp only [Multiset.range, Multiset.filter_coe, Multiset.coe_card, Bool.decide_eq_true]

theorem Window.toList_entries (w : Window) : w.entries.toList = (List.range 32).map w.entryAt := by
  refine List.ext_getElem (by simp) fun k h _ => ?_
  have hk : k < 32 := by simpa using h
  simp [Window.entryAt, hk]

theorem Window.fill_eq_card (w : Window) : w.fill = w.heldSet.card := by
  rw [Window.heldSet, card_filter_range, Window.fill, w.toList_entries, List.filter_map, List.length_map]
  rfl

theorem Window.fill_eq_zero {w : Window} (h : ∀ k, (w.entryAt k).isHeld = false) : w.fill = 0 := by
  rw [Window.fill_eq_card, Finset.card_eq_zero, Finset.eq_empty_iff_forall_notMem]
  intro k hk
  rw [Window.mem_heldSet, h k] at hk
  exact Bool.noConfusion hk

theorem Window.headHeld_le_fill (w : Window) : w.headHeld ≤ w.fill := by
  unfold Window.headHeld
  split
  · next h => rw [Window.fill_eq_card]; exact Finset.card_pos.2 ⟨0, Window.mem_heldSet.2 h⟩
  · exact Nat.zero_le _

/-! ### How many are HELD after each operation -/

theorem Window.fill_startingAt (b : Block) : (Window.startingAt b).fill = 1 := by
  have hset : (Window.startingAt b).heldSet = {0} := by
    ext k
    rw [Window.mem_heldSet, Window.entryAt_startingAt, Finset.mem_singleton]
    split <;> simp [Entry.isHeld, *]
  rw [Window.fill_eq_card, hset, Finset.card_singleton]

theorem Window.fill_withEntry_held {w : Window} {k : Nat} (b : Block) (hk : k < 32)
    (h : (w.entryAt k).isHeld = false) : (w.withEntry k (.held b)).fill = w.fill + 1 := by
  have hset : (w.withEntry k (.held b)).heldSet = insert k w.heldSet := by
    ext j
    rw [Window.mem_heldSet, Window.entryAt_withEntry, Finset.mem_insert, Window.mem_heldSet]
    by_cases hj : j = k
    · subst hj; simp [hk, Entry.isHeld]
    · simp [hj]
  have hnew : k ∉ w.heldSet := by rw [Window.mem_heldSet, h]; exact Bool.false_ne_true
  rw [Window.fill_eq_card, Window.fill_eq_card, hset, Finset.card_insert_of_notMem hnew]

theorem Window.card_erase_zero (w : Window) : (w.heldSet.erase 0).card = w.fill - w.headHeld := by
  unfold Window.headHeld
  rw [Window.fill_eq_card]
  split
  · next h => rw [Finset.card_erase_of_mem (Window.mem_heldSet.2 h)]
  · next h => rw [Finset.erase_eq_of_notMem (mt Window.mem_heldSet.1 h), Nat.sub_zero]

/-- Marking the head SPENT releases what it holds (R37). -/
theorem Window.fill_withEntry_spent (w : Window) : (w.withEntry 0 .spent).fill = w.fill - w.headHeld := by
  have hset : (w.withEntry 0 .spent).heldSet = w.heldSet.erase 0 := by
    ext j
    rw [Window.mem_heldSet, Window.entryAt_withEntry, Finset.mem_erase, Window.mem_heldSet]
    by_cases hj : j = 0
    · subst hj; simp [Entry.isHeld]
    · simp [hj]
  rw [Window.fill_eq_card, hset, Window.card_erase_zero]

/-- An advance of the head releases what it holds, as long as nothing stands at the depth or beyond (R36). -/
theorem Window.fill_advanced {w : Window} {depth : Nat} (hbeyond : ∀ k, depth ≤ k → w.entryAt k = .empty) :
    (w.advanced depth).fill = w.fill - w.headHeld := by
  have hheld {k : Nat} (h : (w.entryAt k).isHeld = true) : k < depth ∧ k < 32 := by
    constructor <;> by_contra hk
    · rw [hbeyond k (Nat.le_of_not_lt hk)] at h; exact Bool.noConfusion h
    · rw [w.entryAt_of_ge (Nat.le_of_not_lt hk)] at h; exact Bool.noConfusion h
  have hset : w.heldSet.erase 0 = (w.advanced depth).heldSet.image (· + 1) := by
    ext j
    rw [Finset.mem_erase, Window.mem_heldSet, Finset.mem_image]
    constructor
    · rintro ⟨h0, hj⟩
      obtain ⟨hd, h32⟩ := hheld hj
      refine ⟨j - 1, Window.mem_heldSet.2 ?_, by omega⟩
      rw [Window.entryAt_advanced, if_pos (by omega), show j - 1 + 1 = j by omega, hj]
    · rintro ⟨k, hk, rfl⟩
      rw [Window.mem_heldSet, Window.entryAt_advanced] at hk
      split at hk
      · exact ⟨by omega, hk⟩
      · exact Bool.noConfusion hk
  rw [← Window.card_erase_zero, hset, Finset.card_image_of_injective _ (add_left_injective 1), Window.fill_eq_card]

/-! ### The highest held offset (R26), and the priming rebase (R31) -/

/-- The highest of the first `n` offsets that is HELD, 0 where none is: `Window.highest` looks at all 32. -/
def Window.highestBelow (w : Window) (n : Nat) : Nat :=
  (List.range n).foldl (fun m k => if (w.entryAt k).isHeld then k else m) 0

theorem Window.highestBelow_succ (w : Window) (n : Nat) :
    w.highestBelow (n + 1) = if (w.entryAt n).isHeld then n else w.highestBelow n := by
  rw [Window.highestBelow, List.range_succ, List.foldl_append, List.foldl_cons, List.foldl_nil]
  rfl

theorem Window.le_highestBelow {w : Window} {k n : Nat} (hk : k < n) (h : (w.entryAt k).isHeld = true) :
    k ≤ w.highestBelow n := by
  induction n with
  | zero => exact absurd hk (Nat.not_lt_zero k)
  | succ n ih =>
    rw [Window.highestBelow_succ]
    split
    · exact Nat.le_of_lt_succ hk
    · next hn => exact ih (Nat.lt_of_le_of_ne (Nat.le_of_lt_succ hk) fun hkn => hn (hkn ▸ h))

theorem Window.highestBelow_eq_zero_or_held (w : Window) (n : Nat) :
    w.highestBelow n = 0 ∨ (w.entryAt (w.highestBelow n)).isHeld = true := by
  induction n with
  | zero => exact .inl rfl
  | succ n ih =>
    rw [Window.highestBelow_succ]
    split
    · next hn => exact .inr hn
    · exact ih

theorem Window.le_highest {w : Window} {k : Nat} (h : (w.entryAt k).isHeld = true) : k ≤ w.highest := by
  refine Window.le_highestBelow (n := 32) ?_ h
  by_contra hk
  rw [w.entryAt_of_ge (Nat.le_of_not_lt hk)] at h
  exact Bool.noConfusion h

theorem Window.highest_lt {w : Window} {depth : Nat} (hdepth : 0 < depth)
    (hbeyond : ∀ k, depth ≤ k → w.entryAt k = .empty) : w.highest < depth := by
  obtain h0 | hheld := w.highestBelow_eq_zero_or_held 32
  · exact h0.trans_lt hdepth
  · by_contra hk
    have hempty : w.entryAt (w.highestBelow 32) = .empty := hbeyond _ (Nat.le_of_not_lt hk)
    rw [hempty] at hheld
    exact Bool.noConfusion hheld

/-- Every held block has room in the rebased window, so the new block comes to them. -/
theorem Window.fill_rebased {w : Window} {depth n : Nat} (b : Block) (hn : 1 ≤ n) (hdepth : depth ≤ 32)
    (hroom : n + w.highest < depth) : (w.rebased depth n b).fill = w.fill + 1 := by
  have hset : (w.rebased depth n b).heldSet = insert 0 (w.heldSet.image (· + n)) := by
    ext j
    rw [Window.mem_heldSet, Finset.mem_insert, Finset.mem_image]
    by_cases hj : j < 32
    · rw [Window.entryAt_rebased _ _ _ _ hj]
      constructor
      · intro h
        split at h
        · next h0 => exact .inl h0
        · split at h
          · next hin => exact .inr ⟨j - n, Window.mem_heldSet.2 h, by omega⟩
          · exact Bool.noConfusion h
      · rintro (rfl | ⟨k, hk, rfl⟩)
        · rfl
        · have := Window.le_highest (Window.mem_heldSet.1 hk)
          rw [if_neg (by omega), if_pos (by omega), Nat.add_sub_cancel]
          exact Window.mem_heldSet.1 hk
    · rw [Window.entryAt_of_ge _ (Nat.le_of_not_lt hj)]
      refine ⟨fun h => Bool.noConfusion h, ?_⟩
      rintro (rfl | ⟨k, hk, rfl⟩)
      · omega
      · have := Window.le_highest (Window.mem_heldSet.1 hk)
        omega
  have h0 : 0 ∉ w.heldSet.image (· + n) := by
    rw [Finset.mem_image]
    rintro ⟨k, -, hk⟩
    omega
  rw [Window.fill_eq_card, hset, Finset.card_insert_of_notMem h0,
    Finset.card_image_of_injective _ (add_left_injective n), Window.fill_eq_card]

end Sys2Proof.Machine
end

section
/-! The arrivals that are placed (R29, R31, R32, R34): start, jump, normal placement and priming rebase. -/

namespace Sys2Proof.Machine

/-! ### A start (R29) -/

theorem State.arrive_eq_start {s : State} {f : FlowIx} (b : Block)
    (h : (s.flow f).rt.state = .idle ∨ (s.flow f).rt.state = .cut) : s.arrive f b = s.start f b := by
  unfold State.arrive
  obtain h | h := h <;> rw [h]

/-- Settles O20: a lawful flow in IDLE or CUT holds no buffer, so the flush before the placement releases none. -/
theorem startMakesFlowPrime : Obligations.StartMakesFlowPrime := by
  unfold Obligations.StartMakesFlowPrime
  intro s f b hlaw hst
  have hheld := (s.flow f).held_eq_zero hlaw (.inr hst)
  obtain ⟨⟨-, -, hprime, -⟩, -⟩ := hlaw
  have heq := s.start_eq f b hprime
  rw [hheld, Pool.released_zero] at heq
  rw [State.arrive_eq_start b hst]
  exact heq

/-! ### A jump (R32) -/

/-- The flow a jump begins again, before its prime check. -/
def Flow.jumped (fl : Flow) (b : Block) : Flow :=
  { (fl.bump .accepted).bump .jumps with window := .startingAt b, held := 1, rt := .primed }

/-- The unit a jump leaves before its group is settled and its prime is checked. -/
def State.jumped (s : State) (f : FlowIx) (b : Block) : State :=
  ((s.setFlow f ((s.flow f).jumped b)).withPool (s.pool.released (s.flow f).held).granted).withNotice
    (s.notice.takeAll ((s.pool.released (s.flow f).held).lowRaises ++ s.wrapRaises f .accepted ++
      s.wrapRaises f .jumps))

theorem State.place_jumped (s : State) (f : FlowIx) (b : Block) :
    (((s.flush f).setRt f .primed).place f (.startingAt b)).count f .jumps = s.jumped f b := by
  have hflow : (((s.flush f).setRt f .primed).flow f) = (s.flow f).emptied .primed := by
    simp [State.flush_eq, State.setRt_eq, Flow.emptied]
  have hwrap (c : Counter) : ((s.flush f).setRt f .primed).wrapRaises f c = s.wrapRaises f c :=
    State.wrapRaises_of (by rw [hflow]; rfl)
  have hjumps : (((s.flush f).setRt f .primed).place f (.startingAt b)).wrapRaises f .jumps = s.wrapRaises f .jumps :=
    State.wrapRaises_of (by
      rw [State.place_eq, State.flow_withNotice, State.flow_withPool, State.flow_setFlow_self, hflow]
      exact Flow.counter_bump_ne ((s.flow f).emptied .primed) (c := .accepted) (d := .jumps) (by decide))
  rw [State.count_eq, State.counted, hjumps, State.place_eq, hwrap, hflow, State.setRt_eq, State.flush_eq]
  simp [State.jumped, Flow.jumped, Flow.emptied, Flow.bump, Flow.counter, NoticeUnit.takeAll_append, Runtime.primed,
    Runtime.reset]

/-- The prime check finds one block, at the head, and reads nothing of the groups. -/
theorem State.jump_eq (s : State) (f : FlowIx) (b : Block) :
    s.jump f b =
      ((s.jumped f b).settleGroupOf f).setFlow f { (s.flow f).jumped b with
        rt := { Runtime.primed with state := if (s.flow f).record.prime ≤ 1 then .ready else .priming } } := by
  have hjump : s.jump f b =
      (((((s.flush f).setRt f .primed).place f (.startingAt b)).count f .jumps).settleGroupOf f).checkPrime f := rfl
  have hflow : ((s.jumped f b).settleGroupOf f).flow f = (s.flow f).jumped b := by
    rw [State.flow_settleGroupOf]
    exact State.flow_setFlow_self s f _
  rw [hjump, State.place_jumped, State.checkPrime_eq, hflow]
  have hcontiguous : ((s.flow f).jumped b).window.contiguous = 1 := Window.contiguous_startingAt b
  have hstate : ((s.flow f).jumped b).rt.state = .priming := rfl
  rw [hcontiguous, hstate]
  simp only [true_and]
  rfl

section
variable {s : State} {f : FlowIx} {b : Block}

theorem State.classify_jump (hj : jumps (seqOffset b.seq (s.flow f).window.head) = true) :
    s.classify f b = s.jump f b := by
  simp only [State.classify, hj, if_true]

end

/-- Settles O21: the jump band comes first in the classification; the flow it begins again plays and holds no more, so
its group is left as by any loss. -/
theorem jumpStartsFlowAgain : Obligations.JumpStartsFlowAgain := by
  unfold Obligations.JumpStartsFlowAgain
  intro s f b hlaw hst hband t
  obtain ⟨⟨-, -, hprime, -⟩, -⟩ := hlaw
  have ht : t = s.jump f b := by
    rw [← State.classify_jump ((jumps_iff _).2 hband), ← State.arrive_eq_classify b hst]
  have hone : ((s.flow f).record.prime ≤ 1) = ((s.flow f).record.prime = 1) := propext (by omega)
  have hgroups : s.groupsAfterLoss ((s.jumped f b).settleGroupOf f) f :=
    s.groupsAfterLoss_settle (s.jumped f b) f (fun _ => rfl)
      (fun x hx => State.flow_setFlow_ne s _ hx) (by rw [State.jumped]; simp [Flow.jumped, Flow.bump])
      (by rw [State.jumped]; simp [Flow.jumped, Runtime.primed, FlowState.playsOrHolds])
  rw [ht, State.jump_eq]
  refine ⟨?_, fun x hx => ?_, ?_, ?_, hgroups, ?_⟩
  · rw [State.flow_setFlow_self]; simp only [hone]; rfl
  · rw [State.flow_setFlow_ne _ _ hx, State.flow_settleGroupOf]
    exact State.flow_setFlow_ne s _ hx
  · simp [State.jumped]
  · simp [State.jumped]
  · refine ⟨?_, ?_, ?_, ?_, ?_⟩ <;> simp [State.jumped]

/-! ### Placements that need a grant (R31, R34, R48) -/

theorem State.grants_eq_false {s : State} {f : FlowIx}
    (h : ¬ ((s.flow f).held < (s.flow f).record.prime ∨ 0 < s.pool.free - s.outstanding)) : s.grants f = false :=
  Bool.eq_false_iff.2 (mt (s.grants_iff f).1 h)

/-- Settles O23: an EMPTY entry within the depth is the last case of the classification. -/
theorem normalPlacementNeedsBuffer : Obligations.NormalPlacementNeedsBuffer := by
  unfold Obligations.NormalPlacementNeedsBuffer
  intro s f b hlaw hst fl d h0 hin hempty w grant
  obtain ⟨⟨-, hmax, -⟩, -⟩ := hlaw
  have hplace : s.arrive f b = s.tryPlace f w := by
    have hj : jumps d = false := (jumps_eq_false_iff d).2 ⟨by omega, by
      have : (fl.record.depth : Int) ≤ 32 := Int.ofNat_le.2 hmax
      omega⟩
    have hhead : ¬ (d = 0 ∧ fl.window.entryAt 0 = .spent) := by
      rintro ⟨hd, hspent⟩
      rw [hd, Int.toNat_zero, hspent] at hempty
      exact Entry.noConfusion hempty
    have hfree : ¬ (fl.window.entryAt d.toNat).isHeld = true := by rw [hempty]; exact Bool.false_ne_true
    rw [State.arrive_eq_classify b hst, State.classify_of_nonneg rfl hj h0, if_neg hhead,
      if_neg (mt (liesBeyond_iff _ d).1 hin.not_ge), if_neg hfree]
  rw [hplace]
  exact ⟨fun hgrant => State.tryPlace_eq s f w ((s.grants_iff f).2 hgrant),
    fun hrefused => State.tryPlace_refused s f w (State.grants_eq_false hrefused)⟩

section
variable {s : State} {f : FlowIx} {b : Block} {d : Int}

/-- Case 2: within reach of a priming rebase. -/
theorem State.classify_rebase (hd : seqOffset b.seq (s.flow f).window.head = d) (hj : jumps d = false)
    (hr : rebases (s.flow f) d = true) :
    s.classify f b = s.tryPlace f ((s.flow f).window.rebased (s.flow f).record.depth (-d).toNat b) := by
  simp [State.classify, hd, hj, hr]

end

/-- Settles O24: an arrival within the reach of the held blocks is placed by the rebased window, one further behind is
late. -/
theorem primingRebaseMovesHeadBack : Obligations.PrimingRebaseMovesHeadBack := by
  unfold Obligations.PrimingRebaseMovesHeadBack
  intro s f b hlaw hst fl d furthest grant
  obtain ⟨⟨hmin, hmax, -⟩, hbeyond, -⟩ := hlaw
  have hmax' : (fl.record.depth : Int) ≤ 32 := Int.ofNat_le.2 hmax
  have hhighest : (fl.window.highest : Int) < fl.record.depth :=
    Int.ofNat_lt.2 (Window.highest_lt (Nat.lt_of_lt_of_le Nat.zero_lt_two hmin) hbeyond)
  rw [State.arrive_eq_classify b (.inl hst)]
  have hrebase (hreach : furthest ≤ d) (hbehind : d ≤ -1) :
      s.classify f b = s.tryPlace f (fl.window.rebased fl.record.depth (-d).toNat b) :=
    State.classify_rebase rfl ((jumps_eq_false_iff d).2 ⟨by omega, by omega⟩)
      ((rebases_iff fl d).2 ⟨hst, hreach, hbehind⟩)
  refine ⟨fun hreach hbehind hgrant => ?granted, fun hreach hbehind hrefused => ?refused, fun hlow hfar => ?late⟩
  case granted =>
    have hentry (k : Nat) (hk : k < 32) := fl.window.entryAt_rebased fl.record.depth (-d).toNat b hk
    refine ⟨fl.window.rebased fl.record.depth (-d).toNat b, ⟨rfl, hentry 0 (by decide), fun k h1 hk => ?_,
      fun k hk hin => ?_, fun k hk => ?_, Window.fill_rebased b (by omega) hmax (by omega)⟩, ?_⟩
    · by_cases h32 : k < 32
      · rw [hentry k h32, if_neg (by omega), if_neg (by omega)]
      · exact Window.entryAt_of_ge _ (Nat.le_of_not_lt h32)
    · rw [hentry k (by omega), if_neg (by omega), if_pos (by omega)]
    · by_cases h32 : k < 32
      · rw [hentry k h32, if_neg (by omega), if_neg (by omega)]
      · exact Window.entryAt_of_ge _ (Nat.le_of_not_lt h32)
    · rw [hrebase hreach hbehind, State.tryPlace_eq s f _ ((s.grants_iff f).2 hgrant)]
      simp only [hst, true_and]
      rfl
  case refused => rw [hrebase hreach hbehind, State.tryPlace_refused s f _ (State.grants_eq_false hrefused)]
  case late =>
    exact State.classify_late (d := d) rfl ((jumps_eq_false_iff d).2 ⟨hlow, by omega⟩)
      (rebases_eq_false_of_far fl fun _ => hfar)
      (by omega)

end Sys2Proof.Machine
end

section
/-! Lane frame starts (R61 to R63, R84, R91 to R93, R97): what one leaves of each flow, each group, the lane unit and
the notices. -/

namespace Sys2Proof.Machine

/-! ### Raises in an open order (R151; log entry 3) -/

theorem exists_perm_of_perm_map {α β : Type} {f : α → β} {l : List β} {u : List α} (h : l.Perm (u.map f)) :
    ∃ v : List α, l = v.map f ∧ v.Perm u := (congrFun (congrFun (List.eq_map_comp_perm f) l) u).mpr h

@[simp] theorem NoticeUnit.mask_lose (n : NoticeUnit) : n.lose.mask = n.mask := by
  unfold NoticeUnit.lose
  dsimp only
  split
  · split <;> rfl
  · split <;> rfl

@[simp] theorem NoticeUnit.mask_take (n : NoticeUnit) (r : Raise) : (n.take r).mask = n.mask := by
  unfold NoticeUnit.take
  split
  · split
    · rfl
    · split
      · rfl
      · exact n.mask_lose
  · rfl

/-- Raises of kinds the mask has off do nothing (R151). -/
theorem NoticeUnit.takeAll_filter_mask (n : NoticeUnit) (rs : List Raise) :
    n.takeAll (rs.filter fun r => n.mask.getLsbD (noticeCode r.kind)) = n.takeAll rs := by
  induction rs generalizing n with
  | nil => rfl
  | cons r rs ih =>
    have hrest := ih (n.take r)
    rw [NoticeUnit.mask_take] at hrest
    by_cases h : n.mask.getLsbD (noticeCode r.kind) = true
    · rw [List.filter_cons_of_pos (by exact h), NoticeUnit.takeAll_cons, NoticeUnit.takeAll_cons, hrest]
    · rw [List.filter_cons_of_neg (by exact h), NoticeUnit.takeAll_cons, NoticeUnit.take_masked h, ih n]

/-- The raises of several flows are handled batch by batch in some order, whatever the mask has off. -/
theorem State.notice_raiseOpen (s : State) (batches : List (List Raise)) :
    ∃ order : List (List Raise), order.Perm (batches.filter fun b => !b.isEmpty) ∧
      (s.raiseOpen batches).notice = s.notice.takeAll order.flatten := by
  let on (r : Raise) : Bool := s.notice.mask.getLsbD (noticeCode r.kind)
  obtain ⟨order, hperm, heq⟩ := s.raiseOpen_eq batches
  have hnotice : (s.raiseOpen batches).notice = s.notice.takeAll order.flatten := by rw [heq]
  have hlive : ((batches.map (List.filter on)).filter fun b => !b.isEmpty) =
      (batches.filter fun b : List Raise => !(b.filter on).isEmpty).map (List.filter on) := by
    rw [List.filter_map]
    rfl
  rw [show (fun b : List Raise => b.filter fun r => s.maskOn r.kind) = List.filter on from rfl, hlive] at hperm
  obtain ⟨live, rfl, hlivePerm⟩ := exists_perm_of_perm_map hperm
  let silent := (batches.filter fun b => !b.isEmpty).filter fun b : List Raise => (b.filter on).isEmpty
  have hsilent : silent.flatten.filter on = [] := by
    rw [List.filter_flatten]
    simp only [List.flatten_eq_nil_iff, List.mem_map]
    rintro _ ⟨b, hb, rfl⟩
    exact List.isEmpty_iff.1 (List.mem_filter.1 hb).2
  have hkept : (batches.filter fun b : List Raise => !(b.filter on).isEmpty) =
      (batches.filter fun b => !b.isEmpty).filter fun b : List Raise => !(b.filter on).isEmpty := by
    rw [List.filter_filter]
    refine List.filter_congr fun b _ => ?_
    cases b <;> simp
  refine ⟨live ++ silent, ?_, ?_⟩
  · refine (hlivePerm.append_right silent).trans ?_
    rw [hkept]
    refine List.perm_append_comm.trans ?_
    exact List.filter_append_perm (fun b : List Raise => (b.filter on).isEmpty) _
  · rw [hnotice, ← List.filter_flatten, s.notice.takeAll_filter_mask, List.flatten_append,
      ← s.notice.takeAll_filter_mask (live.flatten ++ silent.flatten), List.filter_append]
    rw [show silent.flatten.filter (fun r => s.notice.mask.getLsbD (noticeCode r.kind)) = [] from hsilent,
      List.append_nil, s.notice.takeAll_filter_mask]

/-- All but the notices and the count of open orders is as it was. -/
theorem State.raiseOpen_frame (s : State) (batches : List (List Raise)) :
    s.raiseOpen batches =
      { s with notice := (s.raiseOpen batches).notice, choices := (s.raiseOpen batches).choices } := by
  obtain ⟨order, -, heq⟩ := s.raiseOpen_eq batches
  rw [heq]

section
variable (s : State) (batches : List (List Raise))

@[simp] theorem State.flows_raiseOpen : (s.raiseOpen batches).flows = s.flows := by rw [State.raiseOpen_frame]
@[simp] theorem State.groups_raiseOpen : (s.raiseOpen batches).groups = s.groups := by rw [State.raiseOpen_frame]
@[simp] theorem State.pool_raiseOpen : (s.raiseOpen batches).pool = s.pool := by rw [State.raiseOpen_frame]
@[simp] theorem State.lane_raiseOpen : (s.raiseOpen batches).lane = s.lane := by rw [State.raiseOpen_frame]
@[simp] theorem State.ring_raiseOpen : (s.raiseOpen batches).ring = s.ring := by rw [State.raiseOpen_frame]
@[simp] theorem State.mgmt_raiseOpen : (s.raiseOpen batches).mgmt = s.mgmt := by rw [State.raiseOpen_frame]
@[simp] theorem State.pending_raiseOpen : (s.raiseOpen batches).pending = s.pending := by rw [State.raiseOpen_frame]

end

/-! ### The starts (R61, R84) -/

@[simp] theorem State.flow_startAll (s : State) (f : FlowIx) :
    s.startAll.flow f =
      if s.startsNow f then { s.flow f with rt := (s.flow f).rt.toPlaying (s.flow f).headLength } else s.flow f := by
  simp [State.startAll, State.flow]

@[simp] theorem State.group_startAll (s : State) (g : GroupIx) :
    s.startAll.group g = if s.groupStarts g then (s.group g).cleared .running else s.group g := by
  simp [State.startAll, State.group]

theorem State.startsNow_state {s : State} {f : FlowIx} (h : s.startsNow f = true) : (s.flow f).rt.state = .ready := by
  simp only [State.startsNow, Bool.and_eq_true, beq_iff_eq] at h
  exact h.1

theorem State.startsNow_of_group {s : State} {f : FlowIx} {g : GroupIx} (hg : (s.flow f).record.group = some g) :
    s.startsNow f = ((s.flow f).rt.state == .ready && s.groupStarts g) := by
  simp only [State.startsNow, hg]

theorem State.startsNow_of_no_group {s : State} {f : FlowIx} (hg : (s.flow f).record.group = none) :
    s.startsNow f = ((s.flow f).rt.state == .ready) := by
  simp only [State.startsNow, hg, Bool.and_true]

@[simp] theorem State.record_startAll (s : State) (f : FlowIx) : (s.startAll.flow f).record = (s.flow f).record := by
  rw [State.flow_startAll]; split <;> rfl

@[simp] theorem State.counters_startAll (s : State) (f : FlowIx) :
    (s.startAll.flow f).counters = (s.flow f).counters := by
  rw [State.flow_startAll]; split <;> rfl

theorem State.mem_members_iff (s : State) (g : GroupIx) (f : FlowIx) :
    f ∈ s.members g ↔ (s.flow f).record.group = some g ∧ (s.flow f).rt.state.enabled = true := by
  rw [State.members, List.mem_filter, State.isMember, Bool.and_eq_true, beq_iff_eq]
  exact ⟨fun ⟨_, he, hg⟩ => ⟨hg, he⟩, fun ⟨hg, he⟩ => ⟨List.mem_finRange f, he, hg⟩⟩

theorem State.groupStarts_iff (s : State) (g : GroupIx) :
    s.groupStarts g = true ↔ (s.group g).state = .forming ∧
      (∃ f, ((s.flow f).record.group = some g ∧ (s.flow f).rt.state.enabled = true) ∧ (s.flow f).rt.state = .ready) ∧
      ∀ f, ((s.flow f).record.group = some g ∧ (s.flow f).rt.state.enabled = true) →
        ((s.flow f).rt.state = .ready ∨ (s.flow f).rt.state = .idle ∨ (s.flow f).rt.state = .cut) := by
  simp only [State.groupStarts, Bool.and_eq_true, decide_eq_true_eq, List.any_eq_true, List.all_eq_true,
    State.mem_members_iff, beq_iff_eq, Bool.or_eq_true, and_assoc, or_assoc]

/-! ### The slips (R91 to R93) -/

/-- The conditions of a slip (R91): the group RUNNING with its flag clear, a member PLAYING and none HOLDING. -/
def State.maySlip (s : State) (g : GroupIx) : Prop :=
  (s.group g).state = .running ∧ (s.group g).slipDone = false ∧
    (∃ f, (s.flow f).record.group = some g ∧ (s.flow f).rt.state = .playing) ∧
    ∀ f, (s.flow f).record.group = some g → (s.flow f).rt.state ≠ .holding

/-- No block of a PLAYING member ends within a DROP (R91). -/
def State.dropFits (s : State) (g : GroupIx) : Prop :=
  ∀ f, (s.flow f).record.group = some g ∧ (s.flow f).rt.state = .playing →
    ∃ n, (s.flow f).rt.blockLen = some n ∧ (s.flow f).rt.readIndex + 2 ≤ n

theorem State.mem_playingMembers_iff (s : State) (g : GroupIx) (f : FlowIx) :
    f ∈ (s.members g).filter (fun f => (s.flow f).rt.state == .playing) ↔
      (s.flow f).record.group = some g ∧ (s.flow f).rt.state = .playing := by
  rw [List.mem_filter, State.mem_members_iff, beq_iff_eq]
  exact ⟨fun ⟨⟨hg, _⟩, hp⟩ => ⟨hg, hp⟩, fun ⟨hg, hp⟩ => ⟨⟨hg, by rw [hp]; rfl⟩, hp⟩⟩

theorem readsWithin_iff (r n : Nat) (len : Option Nat) (hn : 0 < n) :
    r + n ≤ len.getD 0 ↔ ∃ m, len = some m ∧ r + n ≤ m := by
  cases len with
  | none => simp; omega
  | some m => simp

/-- The slip in the words of R91. -/
theorem State.slip_eq (s : State) (g : GroupIx) [Decidable (s.maySlip g)] [Decidable (s.dropFits g)] :
    s.slip g =
      if s.maySlip g then
        if (s.group g).debt < 0 then -1 else if 0 < (s.group g).debt ∧ s.dropFits g then 1 else 0
      else 0 := by
  have hplays : ((s.members g).filter fun f => (s.flow f).rt.state == .playing) ≠ [] ↔
      ∃ f, (s.flow f).record.group = some g ∧ (s.flow f).rt.state = .playing := by
    rw [Ne, List.eq_nil_iff_forall_not_mem]
    simp only [State.mem_playingMembers_iff, not_forall, not_not]
  have hholds : (s.members g).all (fun f => !((s.flow f).rt.state == .holding)) = true ↔
      ∀ f, (s.flow f).record.group = some g → (s.flow f).rt.state ≠ .holding := by
    simp only [List.all_eq_true, State.mem_members_iff, Bool.not_eq_true', beq_eq_false_iff_ne]
    exact ⟨fun h f hg hh => h f ⟨hg, by rw [hh]; rfl⟩ hh, fun h f hf => h f hf.1⟩
  have hfits : (((s.members g).filter fun f => (s.flow f).rt.state == .playing).all
      fun f => decide ((s.flow f).rt.readIndex + 2 ≤ (s.flow f).rt.blockLen.getD 0)) = true ↔ s.dropFits g := by
    simp only [List.all_eq_true, State.mem_playingMembers_iff, decide_eq_true_eq, readsWithin_iff _ 2 _ Nat.two_pos]
    rfl
  simp only [State.slip, hplays, hholds, hfits]
  exact if_congr Iff.rfl rfl rfl

section
variable {s : State} {g : GroupIx}

theorem State.slip_of_not_maySlip (h : ¬ s.maySlip g) : s.slip g = 0 := by
  classical rw [State.slip_eq, if_neg h]

theorem State.slip_repeats (h : s.maySlip g) (hdebt : (s.group g).debt < 0) : s.slip g = -1 := by
  classical rw [State.slip_eq, if_pos h, if_pos hdebt]

theorem State.slip_drops (h : s.maySlip g) (hdebt : 0 < (s.group g).debt) (hfits : s.dropFits g) : s.slip g = 1 := by
  classical rw [State.slip_eq, if_pos h, if_neg hdebt.not_gt, if_pos ⟨hdebt, hfits⟩]

theorem State.slip_waits (h : (s.group g).debt = 0 ∨ (0 < (s.group g).debt ∧ ¬ s.dropFits g)) : s.slip g = 0 := by
  classical
  have hnot : ¬ (0 < (s.group g).debt ∧ s.dropFits g) := by
    rintro ⟨hpos, hfits⟩
    obtain h0 | ⟨-, hno⟩ := h
    · omega
    · exact hno hfits
  have hneg : ¬ (s.group g).debt < 0 := by omega
  rw [State.slip_eq, if_neg hneg, if_neg hnot, ite_self]

/-- What a slip rests on: the group, and the flows of its members. -/
theorem State.slip_congr {t : State} (hgroup : t.group g = s.group g)
    (hrecord : ∀ f, (t.flow f).record.group = (s.flow f).record.group)
    (hflow : ∀ f, (s.flow f).record.group = some g → t.flow f = s.flow f) : t.slip g = s.slip g := by
  classical
  have hmay : t.maySlip g ↔ s.maySlip g := by
    rw [State.maySlip, State.maySlip, hgroup]
    simp only [hrecord]
    refine and_congr_right fun _ => and_congr_right fun _ =>
      and_congr (exists_congr fun f => ?_) (forall_congr' fun f => ?_)
    · exact and_congr_right fun hg => by rw [hflow f hg]
    · exact imp_congr_right fun hg => by rw [hflow f hg]
  have hfits : t.dropFits g ↔ s.dropFits g := by
    rw [State.dropFits, State.dropFits]
    simp only [hrecord]
    refine forall_congr' fun f => ?_
    by_cases hg : (s.flow f).record.group = some g
    · rw [hflow f hg]
    · simp only [hg, false_and, false_imp_iff]
  simp only [State.slip_eq, hmay, hfits, hgroup]

/-- A group that starts has no debt, and one that does not keeps its members as they are: the starts change no slip. -/
theorem State.slip_startAll (s : State) (g : GroupIx) : s.startAll.slip g = s.slip g := by
  cases hstarts : s.groupStarts g with
  | true =>
    obtain ⟨hforming, -⟩ := (s.groupStarts_iff g).1 hstarts
    have hbefore : s.slip g = 0 := State.slip_of_not_maySlip fun h => by
      have hrunning := h.1
      rw [hforming] at hrunning
      exact GroupState.noConfusion hrunning
    rw [hbefore]
    refine State.slip_waits (.inl ?_)
    rw [State.group_startAll, if_pos hstarts]
    rfl
  | false =>
    refine State.slip_congr ?_ (fun f => by rw [State.record_startAll]) fun f hg => ?_
    · rw [State.group_startAll, hstarts, if_neg Bool.false_ne_true]
    · rw [State.flow_startAll, State.startsNow_of_group hg, hstarts, Bool.and_false, if_neg Bool.false_ne_true]

end

theorem State.slipOf_eq {s : State} {f : FlowIx} {g : GroupIx} (hg : (s.flow f).record.group = some g)
    (hst : (s.flow f).rt.state = .playing) : s.slipOf f = s.slip g := by
  simp only [State.slipOf, hg, hst, if_true]

theorem State.slipOf_of_not_playing {s : State} {f : FlowIx} (hst : (s.flow f).rt.state ≠ .playing) :
    s.slipOf f = 0 := by
  unfold State.slipOf
  cases (s.flow f).record.group with
  | none => rfl
  | some g => exact if_neg hst

theorem State.slipOf_of_no_group {s : State} {f : FlowIx} (hg : (s.flow f).record.group = none) : s.slipOf f = 0 := by
  simp only [State.slipOf, hg]

theorem State.slip_of_groupStarts {s : State} {g : GroupIx} (h : s.groupStarts g = true) : s.slip g = 0 :=
  State.slip_of_not_maySlip fun hmay => by
    obtain ⟨hforming, -⟩ := (s.groupStarts_iff g).1 h
    have hrunning := hmay.1
    rw [hforming] at hrunning
    exact GroupState.noConfusion hrunning

/-- A flow that starts takes part in no slip (R84: its group's debt is 0). -/
theorem State.slipOf_startAll (s : State) (f : FlowIx) : s.startAll.slipOf f = s.slipOf f := by
  cases hg : (s.flow f).record.group with
  | none => rw [State.slipOf_of_no_group hg, State.slipOf_of_no_group (by rw [State.record_startAll, hg])]
  | some g =>
    cases hstarts : s.startsNow f with
    | true =>
      have hready := State.startsNow_state hstarts
      have hgroup : s.groupStarts g = true := by
        rw [State.startsNow_of_group hg, hready] at hstarts
        simpa using hstarts
      have hplaying : (s.startAll.flow f).rt.state = .playing := by rw [State.flow_startAll, if_pos hstarts]; rfl
      rw [State.slipOf_eq (by rw [State.record_startAll, hg]) hplaying, State.slip_startAll,
        State.slip_of_groupStarts hgroup, State.slipOf_of_not_playing (by rw [hready]; exact FlowState.noConfusion)]
    | false =>
      have hflow : s.startAll.flow f = s.flow f := by rw [State.flow_startAll, hstarts, if_neg Bool.false_ne_true]
      unfold State.slipOf
      rw [hflow, hg]
      simp only [State.slip_startAll]

/-! ### The lane frame start as a whole (R97) -/

/-- The unit after the starts and the advances, its next lane frame begun, before the raises. -/
def State.started (s : State) : State :=
  s.startAll.advanceAll.withLane (s.lane.begin s.startAll.formWords)

theorem State.laneFrameStart_eq (s : State) :
    s.laneFrameStart = s.started.raiseOpen (allFlows.map (s.startRaises s.startAll)) := by
  have hlane : s.startAll.advanceAll.lane = s.lane := by rw [State.advanceAll, State.startAll]
  unfold State.laneFrameStart State.started
  simp only [hlane]

/-- A flow after a lane frame start: started if it starts, and advanced if it presents. -/
theorem State.flow_laneFrameStart (s : State) (f : FlowIx) :
    s.laneFrameStart.flow f = (s.startAll.flow f).afterPresenting (s.slipOf f) := by
  rw [State.laneFrameStart_eq, State.flow, State.flows_raiseOpen, ← s.slipOf_startAll f]
  simp [State.started, State.advanceAll]

theorem State.group_laneFrameStart (s : State) (g : GroupIx) :
    s.laneFrameStart.group g = (s.startAll.group g).afterSlip (s.slip g) := by
  rw [State.laneFrameStart_eq, State.group, State.groups_raiseOpen, ← s.slip_startAll g]
  simp [State.started, State.advanceAll]

section
variable (s : State)

theorem State.lane_laneFrameStart : s.laneFrameStart.lane = s.lane.begin s.startAll.formWords := by
  rw [State.laneFrameStart_eq, State.lane_raiseOpen, State.started, State.lane_withLane]

theorem State.pool_laneFrameStart : s.laneFrameStart.pool = s.pool := by
  rw [State.laneFrameStart_eq, State.pool_raiseOpen, State.started, State.pool_withLane, State.advanceAll,
    State.startAll]

theorem State.ring_laneFrameStart : s.laneFrameStart.ring = s.ring := by
  rw [State.laneFrameStart_eq, State.ring_raiseOpen, State.started, State.ring_withLane, State.advanceAll,
    State.startAll]

theorem State.mgmt_laneFrameStart : s.laneFrameStart.mgmt = s.mgmt := by
  rw [State.laneFrameStart_eq, State.mgmt_raiseOpen, State.started, State.mgmt_withLane, State.advanceAll,
    State.startAll]

theorem State.pending_laneFrameStart : s.laneFrameStart.pending = s.pending := by
  rw [State.laneFrameStart_eq, State.pending_raiseOpen, State.started, State.pending_withLane, State.advanceAll,
    State.startAll]

theorem State.notice_started : s.started.notice = s.notice := by
  rw [State.started, State.notice_withLane, State.advanceAll, State.startAll]

end

/-- The raises of a lane frame start for one flow (R79, R163). -/
theorem State.startRaises_eq (s : State) (f : FlowIx) :
    s.startRaises s.startAll f =
      (if s.startsNow f then [flowStateRaise f .playing] else []) ++
        (if s.slipOf f = 0 then [] else s.wrapRaises f .slips) := by
  have hwrap : s.startAll.wrapRaises f .slips = s.wrapRaises f .slips :=
    State.wrapRaises_of (by rw [Flow.counter, Flow.counter, State.counters_startAll])
  rw [State.startRaises, State.slipOf_startAll, hwrap]

theorem State.notice_laneFrameStart (s : State) :
    ∃ order : List (List Raise),
      order.Perm ((allFlows.map (s.startRaises s.startAll)).filter fun b => !b.isEmpty) ∧
      s.laneFrameStart.notice = s.notice.takeAll order.flatten := by
  rw [State.laneFrameStart_eq, ← s.notice_started]
  exact State.notice_raiseOpen _ _

/-! ### Edges (R63, R99; log entry 6) -/

/-- The edge itself, with no boundary left to take: clock detection and, in PRESENT, the lane frame start. -/
def State.edge (s : State) : State :=
  match s.lane.status with
  | .present => (s.withLane { s.lane with gap := 0 }).laneFrameStart
  | .absent => s.acquireEdge

theorem exec_frameSyncEdge (s : State) : exec .frameSyncEdge s = .next s.takeDueBoundaries.edge := by
  change execFrameSyncEdge s = _
  unfold execFrameSyncEdge State.edge
  cases h : s.takeDueBoundaries.lane.status <;> simp only [h]

/-- The flows whose boundary is due, ascending. -/
def State.dueFlows (s : State) : List FlowIx := allFlows.filter fun f => (s.flow f).boundaryDue

theorem State.takeDueBoundaries_eq (s : State) :
    s.takeDueBoundaries = (s.openOrder s.dueFlows).foldl State.boundary (s.orderTaken s.dueFlows) := rfl

section
variable {s : State}

theorem State.takeDueBoundaries_of_none (h : ∀ f, (s.flow f).boundaryDue = false) : s.takeDueBoundaries = s := by
  have hnone : s.dueFlows = [] := List.filter_eq_nil_iff.2 fun f _ => by rw [h f]; exact Bool.false_ne_true
  rw [State.takeDueBoundaries_eq, hnone]
  rfl

theorem State.takeDueBoundaries_of_one {f : FlowIx} (hf : (s.flow f).boundaryDue = true)
    (h : ∀ x, x ≠ f → (s.flow x).boundaryDue = false) : s.takeDueBoundaries = s.boundary f := by
  have hmem (x : FlowIx) : x ∈ s.dueFlows ↔ x ∈ [f] := by
    rw [State.dueFlows, List.mem_filter, List.mem_singleton]
    refine ⟨fun hx => ?_, fun hx => ⟨List.mem_finRange x, hx ▸ hf⟩⟩
    by_contra hne
    rw [h x hne] at hx
    exact Bool.noConfusion hx.2
  have hone : s.dueFlows = [f] := List.perm_singleton.1
    ((List.perm_ext_iff_of_nodup (nodup_allFlows.filter _) (List.nodup_singleton f)).2 hmem)
  rw [State.takeDueBoundaries_eq, hone]
  rfl

theorem exec_frameSyncEdge_present (hp : s.lane.status = .present) (h : ∀ f, (s.flow f).boundaryDue = false) :
    exec .frameSyncEdge s = .next (s.withLane { s.lane with gap := 0 }).laneFrameStart := by
  rw [exec_frameSyncEdge, State.takeDueBoundaries_of_none h, State.edge, hp]

theorem exec_frameSyncEdge_absent (ha : s.lane.status = .absent) (h : ∀ f, (s.flow f).boundaryDue = false) :
    exec .frameSyncEdge s = .next s.acquireEdge := by
  rw [exec_frameSyncEdge, State.takeDueBoundaries_of_none h, State.edge, ha]

end

theorem FlowState.presenting_iff (x : FlowState) :
    x.presenting = true ↔ x = .playing ∨ x = .holding ∨ x.isDraining = true := by
  cases x <;> simp [FlowState.presenting, FlowState.playsOrHolds, FlowState.isDraining]

theorem Flow.boundaryDue_iff (fl : Flow) :
    fl.boundaryDue = true ↔
      (fl.rt.state = .playing ∨ fl.rt.state = .holding ∨ fl.rt.state.isDraining = true) ∧
        fl.rt.blockLen = some fl.rt.readIndex := by
  rw [Flow.boundaryDue, Bool.and_eq_true, FlowState.presenting_iff, beq_iff_eq]

/-- Settles O25: the boundary acts on the due flow alone, and the edge takes the boundaries that are due before its own
work. -/
theorem boundaryIsTakenOnlyWhenDue : Obligations.BoundaryIsTakenOnlyWhenDue := by
  unfold Obligations.BoundaryIsTakenOnlyWhenDue
  refine ⟨fun s f h => ?notDue, fun s t f hdue hothers hexec hafter => ?dueAtEdge⟩
  case notDue =>
    have hboundary : s.boundary f = s := if_neg (mt (Flow.boundaryDue_iff _).1 h)
    exact congrArg _ hboundary
  case dueAtEdge =>
    have ht : s.boundary f = t := Host.Outcome.next.inj hexec
    rw [exec_frameSyncEdge, exec_frameSyncEdge, State.takeDueBoundaries_of_one hdue hothers, ht,
      State.takeDueBoundaries_of_none hafter]

/-- Settles O35: with no boundary due the edge is taken as it comes, and the run of edges decides. -/
theorem fourthEdgeMakesClockPresent : Obligations.FourthEdgeMakesClockPresent := by
  unfold Obligations.FourthEdgeMakesClockPresent
  intro s habsent hdue
  rw [exec_frameSyncEdge_absent habsent hdue]
  refine ⟨fun hrun => congrArg _ (if_pos hrun), fun hrun => congrArg _ ?_⟩
  have hfour : ¬ s.lane.run < 3 := by omega
  exact if_neg hfour

end Sys2Proof.Machine
end

section
/-! What an edge in PRESENT leaves (R61 to R63, R84, R91 to R93, R97, R103): starts, advances, slips and words. -/

namespace Sys2Proof.Machine

/-! ### A flow that presents, or does not (R63) -/

section
variable {fl : Flow}

theorem Flow.afterPresenting_of_silent {slip : Int} (h : fl.rt.state.presenting = false) :
    fl.afterPresenting slip = fl := by
  rw [Flow.afterPresenting, h, if_neg Bool.false_ne_true]

variable (h : fl.rt.state.presenting = true)
include h

theorem Flow.afterPresenting_advance :
    fl.afterPresenting 0 = { fl with rt := { fl.rt with readIndex := fl.rt.readIndex + 1 } } := by
  rw [Flow.afterPresenting, if_pos h]
  rfl

theorem Flow.afterPresenting_slip {slip : Int} (hslip : slip ≠ 0) :
    fl.afterPresenting slip =
      Flow.bump { fl with rt := { fl.rt with readIndex := fl.rt.readIndex + advanceBy slip } } .slips := by
  rw [Flow.afterPresenting, if_pos h]
  exact if_neg hslip

end

theorem FlowState.presenting_of_playsOrHolds {x : FlowState} (h : x = .playing ∨ x = .holding) : x.presenting = true :=
  x.presenting_iff.2 (h.elim .inl fun h => .inr (.inl h))

theorem FlowState.ne_ready_of_presenting {x : FlowState} (h : x.presenting = true) : x ≠ .ready := by
  rintro rfl
  exact Bool.noConfusion h

theorem State.startsNow_eq_false {s : State} {f : FlowIx} (h : (s.flow f).rt.state ≠ .ready) : s.startsNow f = false :=
  Bool.eq_false_iff.2 (mt State.startsNow_state h)

/-! ### The edge -/

/-- What an edge taken in PRESENT with no boundary due leaves. -/
structure State.LaneFrameStarted (s t : State) : Prop where
  flow : ∀ f, t.flow f = (s.startAll.flow f).afterPresenting (s.slipOf f)
  group : ∀ g, t.group g = (s.startAll.group g).afterSlip (s.slip g)
  lane : t.lane = { s.lane with gap := 0, words := s.startAll.formWords, bitPos := 0 }
  pool : t.pool = s.pool
  ring : t.ring = s.ring
  mgmt : t.mgmt = s.mgmt
  notice : ∃ order : List (List Raise),
    order.Perm ((allFlows.map (s.startRaises s.startAll)).filter fun b => !b.isEmpty) ∧
    t.notice = s.notice.takeAll order.flatten

/-! What a lane frame start reads of the lane unit is the map and the lane settings alone (Table 6-1). -/

section
variable (s : State) (l : LaneUnit)

theorem State.startAll_withLane : (s.withLane l).startAll = s.startAll.withLane l := rfl
theorem State.slip_withLane (g : GroupIx) : (s.withLane l).slip g = s.slip g := rfl
theorem State.slipOf_withLane (f : FlowIx) : (s.withLane l).slipOf f = s.slipOf f := rfl
theorem State.startRaises_withLane (t : State) (m : LaneUnit) :
    (s.withLane l).startRaises (t.withLane m) = s.startRaises t := rfl

variable {l} in
theorem State.formWords_withLane (hmap : l.map = s.lane.map) (hlanes : l.lanes = s.lane.lanes) :
    (s.withLane l).formWords = s.formWords := by
  simp only [State.formWords, State.formWord, State.lane_withLane, State.flow_withLane, hmap, hlanes]
  rfl

end

theorem State.laneFrameStarted (s : State) :
    s.LaneFrameStarted (s.withLane { s.lane with gap := 0 }).laneFrameStart where
  flow f := by rw [State.flow_laneFrameStart, State.startAll_withLane, State.flow_withLane, State.slipOf_withLane]
  group g := by rw [State.group_laneFrameStart, State.startAll_withLane, State.group_withLane, State.slip_withLane]
  lane := by
    have hwords : (s.startAll.withLane { s.lane with gap := 0 }).formWords = s.startAll.formWords :=
      s.startAll.formWords_withLane (by rw [State.startAll]) (by rw [State.startAll])
    rw [State.lane_laneFrameStart, State.startAll_withLane, hwords, State.lane_withLane, LaneUnit.begin]
  pool := by rw [State.pool_laneFrameStart, State.pool_withLane]
  ring := by rw [State.ring_laneFrameStart, State.ring_withLane]
  mgmt := by rw [State.mgmt_laneFrameStart, State.mgmt_withLane]
  notice := by
    have hnotice := State.notice_laneFrameStart (s.withLane { s.lane with gap := 0 })
    rwa [State.startAll_withLane, State.startRaises_withLane, State.notice_withLane] at hnotice

theorem exec_frameSyncEdge_started {s : State} (hp : s.lane.status = .present)
    (hdue : ∀ f, (s.flow f).boundaryDue = false) :
    ∃ t, exec .frameSyncEdge s = .next t ∧ s.LaneFrameStarted t :=
  ⟨_, exec_frameSyncEdge_present hp hdue, s.laneFrameStarted⟩

section
variable {s t : State} (h : s.LaneFrameStarted t) {f : FlowIx}
include h

theorem State.LaneFrameStarted.flow_silent (hst : (s.flow f).rt.state.presenting = false)
    (hstarts : s.startsNow f = false) : t.flow f = s.flow f := by
  rw [h.flow, State.flow_startAll, hstarts, if_neg Bool.false_ne_true, Flow.afterPresenting_of_silent hst]

theorem State.LaneFrameStarted.flow_presenting (hst : (s.flow f).rt.state.presenting = true) :
    t.flow f = (s.flow f).afterPresenting (s.slipOf f) := by
  rw [h.flow, State.flow_startAll, State.startsNow_eq_false (FlowState.ne_ready_of_presenting hst),
    if_neg Bool.false_ne_true]

theorem State.LaneFrameStarted.flow_advanced (hst : (s.flow f).rt.state.presenting = true) (hslip : s.slipOf f = 0) :
    t.flow f = { s.flow f with rt := { (s.flow f).rt with readIndex := (s.flow f).rt.readIndex + 1 } } := by
  rw [h.flow_presenting hst, hslip, Flow.afterPresenting_advance hst]

/-- A flow that starts has presented sample frame 0 of the block at its head (R62). -/
theorem State.LaneFrameStarted.flow_starting (hstarts : s.startsNow f = true) {b : Block}
    (hb : (s.flow f).window.entryAt 0 = .held b) :
    t.flow f = { s.flow f with
      rt := { (s.flow f).rt with
        state := .playing, readIndex := 1, blockLen := some b.length, holdCount := 0, fadeStage := 0 } } := by
  have hslip : s.slipOf f = 0 := State.slipOf_of_not_playing (by
    rw [State.startsNow_state hstarts]; exact FlowState.noConfusion)
  have hlength : (s.flow f).headLength = b.length := by simp only [Flow.headLength, hb]
  rw [h.flow, State.flow_startAll, if_pos hstarts, hslip, hlength, Flow.afterPresenting_advance rfl]
  rfl

theorem State.LaneFrameStarted.group_waiting {g : GroupIx} (hstarts : s.groupStarts g = false) (hslip : s.slip g = 0) :
    t.group g = s.group g := by
  rw [h.group, State.group_startAll, hstarts, hslip]
  rfl

end

theorem State.isEmpty_wrapRaises (s : State) (f : FlowIx) (c : Counter) :
    (s.wrapRaises f c).isEmpty = !decide ((s.flow f).counter c = 65535) := by
  unfold State.wrapRaises
  split <;> simp_all

section
variable {s : State}

theorem State.startRaises_of_no_slip (hslip : ∀ g, s.slip g = 0) (f : FlowIx) :
    s.startRaises s.startAll f = if s.startsNow f then [flowStateRaise f .playing] else [] := by
  have hzero : s.slipOf f = 0 := by
    cases hg : (s.flow f).record.group with
    | none => exact State.slipOf_of_no_group hg
    | some g => simp only [State.slipOf, hg, hslip, ite_self]
  rw [State.startRaises_eq, if_pos hzero, List.append_nil]

/-- The flows whose starts raise something are those that start. -/
theorem State.filter_startRaises (hslip : ∀ g, s.slip g = 0) :
    ((allFlows.map (s.startRaises s.startAll)).filter fun b => !b.isEmpty) =
      (allFlows.filter s.startsNow).map fun f => [flowStateRaise f .playing] := by
  rw [List.filter_map]
  have hsame : allFlows.filter ((fun b => !b.isEmpty) ∘ s.startRaises s.startAll) = allFlows.filter s.startsNow := by
    refine List.filter_congr fun f _ => ?_
    rw [Function.comp_apply, State.startRaises_of_no_slip hslip]
    cases s.startsNow f <;> rfl
  rw [hsame]
  refine List.map_congr_left fun f hf => ?_
  rw [State.startRaises_of_no_slip hslip, if_pos (List.mem_filter.1 hf).2]

end

/-- Settles O31: what a flow does at the edge is read off its state, and the raises off the flows that start. -/
theorem laneFrameStartAdvancesUngroupedFlow : Obligations.LaneFrameStartAdvancesUngroupedFlow := by
  unfold Obligations.LaneFrameStartAdvancesUngroupedFlow
  intro s hp hdue
  obtain ⟨t, hexec, ht⟩ := exec_frameSyncEdge_started hp hdue
  refine ⟨t, hexec, fun f hg => ⟨fun hready b hb => ?starts, fun hst => ?advances⟩, fun f hst => ?slipless,
    fun f hst hready => ?silent, fun f hf hothers hslip => ?oneStart, fun hnone hslip => ?noStart, ?lane⟩
  case starts =>
    exact ht.flow_starting (by rw [State.startsNow_of_no_group hg, hready]; rfl) hb
  case advances => exact ht.flow_advanced hst (State.slipOf_of_no_group hg)
  case slipless =>
    refine ht.flow_advanced ((FlowState.presenting_iff _).2 (.inr hst)) (State.slipOf_of_not_playing fun hplaying => ?_)
    rw [hplaying] at hst
    exact hst.elim FlowState.noConfusion Bool.noConfusion
  case silent => exact ht.flow_silent hst (State.startsNow_eq_false hready)
  case oneStart =>
    obtain ⟨order, hperm, hnotice⟩ := ht.notice
    have hone : allFlows.filter s.startsNow = [f] := List.perm_singleton.1
      ((List.perm_ext_iff_of_nodup (nodup_allFlows.filter _) (List.nodup_singleton f)).2 fun x => by
        rw [List.mem_filter, List.mem_singleton]
        refine ⟨fun hx => by_contra fun hne => ?_, fun hx => ⟨List.mem_finRange x, hx ▸ hf⟩⟩
        rw [hothers x hne] at hx
        exact Bool.noConfusion hx.2)
    rw [State.filter_startRaises hslip, hone, List.map_singleton, List.perm_singleton] at hperm
    rw [hnotice, hperm]
    rfl
  case noStart =>
    obtain ⟨order, hperm, hnotice⟩ := ht.notice
    have hnil : allFlows.filter s.startsNow = [] := List.filter_eq_nil_iff.2 fun x _ => by
      rw [hnone x]; exact Bool.false_ne_true
    rw [State.filter_startRaises hslip, hnil, List.map_nil, List.perm_nil] at hperm
    rw [hnotice, hperm]
    rfl
  case lane =>
    rw [ht.lane]
    exact ⟨hp, rfl, rfl, rfl, rfl, ht.pool, ht.ring, ht.mgmt⟩

/-- Settles O32: the test of the group start is that of R84, and a member starts with its group. -/
theorem groupStartsWhenMembersReady : Obligations.GroupStartsWhenMembersReady := by
  unfold Obligations.GroupStartsWhenMembersReady
  intro s g hp hdue hforming isMember starts
  obtain ⟨t, hexec, ht⟩ := exec_frameSyncEdge_started hp hdue
  have hstarts : s.groupStarts g = true ↔ starts :=
    (s.groupStarts_iff g).trans ⟨fun h => h.2, fun h => ⟨hforming, h⟩⟩
  refine ⟨t, hexec, fun h => ⟨?running, fun f b hf hready hb => ?started, fun f hf hready => ?others⟩,
    fun h => ⟨?forming, fun f hf hready => ?waiting⟩⟩
  case running =>
    rw [ht.group, State.group_startAll, if_pos (hstarts.2 h), State.slip_of_groupStarts (hstarts.2 h)]
    rfl
  case started =>
    exact ht.flow_starting (by rw [State.startsNow_of_group hf.1, hready, hstarts.2 h]; rfl) hb
  case others =>
    refine ht.flow_silent ?_ (State.startsNow_eq_false hready)
    obtain hst | hst | hst := h.2 f hf <;> rw [hst] <;> rfl
  case forming =>
    refine ht.group_waiting (Bool.eq_false_iff.2 (mt hstarts.1 h)) (State.slip_of_not_maySlip fun hmay => ?_)
    have hrunning := hmay.1
    rw [hforming] at hrunning
    exact GroupState.noConfusion hrunning
  case waiting =>
    refine ht.flow_silent (by rw [hready]; rfl) ?_
    rw [State.startsNow_of_group hf.1, Bool.eq_false_iff.2 (mt hstarts.1 h), Bool.and_false]

/-! ### Slips (R91 to R93) -/

/-- Where no flow starts and group `g` alone slips, the raises are the wraps of SLIPS of its PLAYING members. -/
theorem State.filter_slipRaises {s : State} {g : GroupIx} (hslip : s.slip g ≠ 0) (hstarts : ∀ x, s.startsNow x = false)
    (hothers : ∀ k, k ≠ g → s.slip k = 0)
    [DecidablePred fun f => ((s.flow f).record.group = some g ∧ (s.flow f).rt.state = .playing) ∧
      (s.flow f).counter .slips = 65535] :
    ((allFlows.map (s.startRaises s.startAll)).filter fun b => !b.isEmpty) =
      (allFlows.filter fun f => decide (((s.flow f).record.group = some g ∧ (s.flow f).rt.state = .playing) ∧
        (s.flow f).counter .slips = 65535)).map
        fun f => [{ kind := .counterWrap, subject := .flow f, detail := 12, dest := none }] := by
  have hslips (f : FlowIx) :
      s.slipOf f ≠ 0 ↔ (s.flow f).record.group = some g ∧ (s.flow f).rt.state = .playing := by
    refine ⟨fun hne => ?_, fun ⟨hg, hst⟩ => by rwa [State.slipOf_eq hg hst]⟩
    have hst : (s.flow f).rt.state = .playing := by_contra fun hst => hne (State.slipOf_of_not_playing hst)
    cases hg : (s.flow f).record.group with
    | none => exact absurd (State.slipOf_of_no_group hg) hne
    | some k =>
      rw [State.slipOf_eq hg hst] at hne
      exact ⟨congrArg some (by_contra fun hk => hne (hothers k hk)), hst⟩
  have hraises (f : FlowIx) :
      s.startRaises s.startAll f = if s.slipOf f = 0 then [] else s.wrapRaises f .slips := by
    rw [State.startRaises_eq, hstarts f]
    rfl
  rw [List.filter_map]
  have hsame : allFlows.filter ((fun b => !b.isEmpty) ∘ s.startRaises s.startAll) =
      allFlows.filter fun f => decide (((s.flow f).record.group = some g ∧ (s.flow f).rt.state = .playing) ∧
        (s.flow f).counter .slips = 65535) := by
    refine List.filter_congr fun f _ => ?_
    rw [Function.comp_apply, hraises, Bool.eq_iff_iff, decide_eq_true_iff, ← hslips]
    by_cases hzero : s.slipOf f = 0
    · simp [hzero]
    · simp [hzero, State.isEmpty_wrapRaises]
  rw [hsame]
  refine List.map_congr_left fun f hf => ?_
  obtain ⟨hplays, hcounter⟩ := decide_eq_true_iff.1 (List.mem_filter.1 hf).2
  rw [hraises, if_neg ((hslips f).2 hplays), State.wrapRaises, if_pos hcounter]
  rfl

/-- Settles O33: the conditions of R91 name the slip of the group, and each PLAYING member takes part in it. -/
theorem slipRepeatsOrDropsOneFrame : Obligations.SlipRepeatsOrDropsOneFrame := by
  unfold Obligations.SlipRepeatsOrDropsOneFrame
  intro s g hp hdue hrunning plays may fits moved
  obtain ⟨t, hexec, ht⟩ := exec_frameSyncEdge_started hp hdue
  have hmay : s.maySlip g ↔ may := ⟨fun h => h.2, fun h => ⟨hrunning, h⟩⟩
  have hgroup : t.group g = (s.group g).afterSlip (s.slip g) := by
    rw [ht.group, State.group_startAll, if_neg fun hstarts => ?_]
    have hforming := ((s.groupStarts_iff g).1 hstarts).1
    rw [hrunning] at hforming
    exact GroupState.noConfusion hforming
  have hflow {f : FlowIx} (hf : plays f) : t.flow f = (s.flow f).afterPresenting (s.slip g) := by
    rw [ht.flow_presenting (FlowState.presenting_of_playsOrHolds (.inl hf.2)), State.slipOf_eq hf.1 hf.2]
  have hpresents {f : FlowIx} (hf : plays f) : (s.flow f).rt.state.presenting = true :=
    FlowState.presenting_of_playsOrHolds (.inl hf.2)
  refine ⟨t, hexec, fun h hdebt => ?repeats, fun h hdebt hfit => ?drops, fun h hdebt hstarts hothers => ?wraps,
    fun h => ?waits⟩
  case repeats =>
    have hslip := State.slip_repeats (hmay.2 h) hdebt
    rw [hslip] at hgroup
    exact ⟨hgroup, fun f hf => by rw [hflow hf, hslip, Flow.afterPresenting_slip (hpresents hf) (by decide)]; rfl⟩
  case drops =>
    have hslip := State.slip_drops (hmay.2 h) hdebt hfit
    rw [hslip] at hgroup
    exact ⟨hgroup, fun f hf => by rw [hflow hf, hslip, Flow.afterPresenting_slip (hpresents hf) (by decide)]; rfl⟩
  case wraps =>
    have hslip : s.slip g ≠ 0 := by
      obtain hneg | ⟨hpos, hfit⟩ := hdebt
      · rw [State.slip_repeats (hmay.2 h) hneg]; decide
      · rw [State.slip_drops (hmay.2 h) hpos hfit]; decide
    obtain ⟨order, hperm, hnotice⟩ := ht.notice
    rw [State.filter_slipRaises hslip hstarts hothers] at hperm
    obtain ⟨flows, rfl, hflows⟩ := exists_perm_of_perm_map hperm
    refine ⟨flows, hflows, ?_⟩
    rw [hnotice, ← List.flatMap_def, ← List.map_eq_flatMap]
  case waits =>
    have hslip : s.slip g = 0 := by
      obtain hno | hzero | hlong := h
      · exact State.slip_of_not_maySlip (mt hmay.1 hno)
      · exact State.slip_waits (.inl hzero)
      · exact State.slip_waits (.inr hlong)
    rw [hslip] at hgroup
    exact ⟨hgroup, fun f hf => by rw [hflow hf, hslip, Flow.afterPresenting_advance (hpresents hf)]⟩

/-! ### The words of a lane frame (Table 6-1) -/

theorem toInt_sampleWord (x : Sample) : (sampleWord x).toInt = x.toInt * 256 := by
  rw [sampleWord]
  exact BitVec.toInt_append_zero.trans (Int.mul_comm _ _)

section
variable {s : State} {l : Fin 4} {p : Fin 16}

theorem State.formWord_disabled (h : (s.lane.lanes[l.val]).enable = false) : s.formWord l p = 0 := by
  simp only [State.formWord, h, Bool.not_false, if_true]

theorem State.formWord_muted (h : (s.lane.lanes[l.val]).mute = true) : s.formWord l p = 0 := by
  simp only [State.formWord, h, if_true, ite_self]

theorem State.formWord_silence (h : s.lane.map[l.val * 16 + p.val] = .silence) : s.formWord l p = 0 := by
  simp only [State.formWord, h, ite_self]

section
variable {f : FlowIx} {c : Fin 8} (h : s.lane.map[l.val * 16 + p.val] = .source f c)
include h

theorem State.formWord_notPresenting (hf : (s.flow f).presented = none) : s.formWord l p = 0 := by
  simp only [State.formWord, h, hf, ite_self]

theorem State.formWord_beyondChannels (hc : (s.flow f).record.channels ≤ c.val) : s.formWord l p = 0 := by
  simp only [State.formWord, h, if_pos hc]
  cases (s.flow f).presented <;> simp

theorem State.toInt_formWord (hon : (s.lane.lanes[l.val]).enable = true) (hmute : (s.lane.lanes[l.val]).mute = false)
    (hc : c.val < (s.flow f).record.channels) {frame : List Sample} (hf : (s.flow f).presented = some frame) :
    (s.formWord l p).toInt = (frame.getD c.val 0).toInt * 256 := by
  rw [← toInt_sampleWord]
  simp only [State.formWord, h, hon, hmute, hf, if_neg hc.not_ge, Bool.not_true, Bool.false_eq_true, if_false]

end
end

theorem State.getElem_formWords (s : State) (l : Fin 4) (p : Fin 16) :
    s.formWords[l.val * 16 + p.val] = s.formWord l p := by
  have hl : (l.val * 16 + p.val) / 16 = l.val := by omega
  have hp : (l.val * 16 + p.val) % 16 = p.val := by omega
  simp only [State.formWords, Vector.getElem_ofFn, hl, hp]

section
variable {fl : Flow}

theorem Flow.presented_of_silent (h : fl.rt.state.presenting = false) : fl.presented = none := by
  unfold Flow.presented
  cases hst : fl.rt.state <;> simp_all [FlowState.presenting, FlowState.playsOrHolds, FlowState.isDraining]

theorem Flow.presented_of_playing (h : fl.rt.state = .playing ∨ fl.rt.state = .draining .playing) {b : Block}
    (hb : fl.window.entryAt 0 = .held b) : fl.presented = some (b.frame fl.rt.readIndex) := by
  obtain h | h := h <;> simp only [Flow.presented, h, Flow.headFrame, hb]

theorem Flow.presented_of_holding (h : fl.rt.state = .holding ∨ fl.rt.state = .draining .holding) :
    fl.presented = some fl.concealFrame := by
  obtain h | h := h <;> simp only [Flow.presented, h]

end

/-- Settles O30: the words are formed of the flows as the starts leave them, which changes the starting ones alone. -/
theorem laneFrameWordsFollowTable : Obligations.LaneFrameWordsFollowTable := by
  unfold Obligations.LaneFrameWordsFollowTable
  intro s hp hdue
  obtain ⟨t, hexec, ht⟩ := exec_frameSyncEdge_started hp hdue
  refine ⟨t, hexec, by rw [ht.lane], fun l p => ?_⟩
  intro word entry
  have hword : word = s.startAll.formWord l p := by
    simp only [word, ht.lane]
    exact s.startAll.getElem_formWords l p
  have hkept {f : FlowIx} (h : (s.flow f).rt.state ≠ .ready) : s.startAll.flow f = s.flow f := by
    rw [State.flow_startAll, State.startsNow_eq_false h, if_neg Bool.false_ne_true]
  rw [hword]
  refine ⟨fun h => State.formWord_disabled h, fun h => State.formWord_muted h, fun h => State.formWord_silence h,
    fun f c he hst hstarts => ?silent, fun f c he hc => ?beyond, fun f c hon hmute he hc => ?presented⟩
  case silent =>
    refine State.formWord_notPresenting he (Flow.presented_of_silent ?_)
    rw [State.flow_startAll, hstarts, if_neg Bool.false_ne_true, hst]
  case beyond => exact State.formWord_beyondChannels he (by rwa [State.record_startAll])
  case presented =>
    have hchannels : c.val < (s.startAll.flow f).record.channels := by rwa [State.record_startAll]
    have presents {frame : List Sample} (h : (s.startAll.flow f).presented = some frame) :=
      State.toInt_formWord (s := s.startAll) he hon hmute hchannels h
    refine ⟨fun b hb => ⟨fun hst => presents ?_, fun hstarts => presents ?_⟩, fun hst => presents ?_⟩
    · have hnot : (s.flow f).rt.state ≠ .ready := fun h => by rw [h] at hst; exact hst.elim nofun nofun
      rw [hkept hnot, Flow.presented_of_playing hst hb]
    · rw [State.flow_startAll, if_pos hstarts]
      exact Flow.presented_of_playing (.inl rfl) hb
    · have hnot : (s.flow f).rt.state ≠ .ready := fun h => by rw [h] at hst; exact hst.elim nofun nofun
      rw [hkept hnot, Flow.presented_of_holding hst]

end Sys2Proof.Machine
end

section
/-! Ticks (R73, R77, R98, R138): the timers that end at one, one item after another, and what no item touches. -/

namespace Sys2Proof.Machine

/-! ### One item, or none -/

section
variable {s : State}

theorem exec_tick (s : State) : exec .tick s = .next (s.tickTaking []) := rfl

theorem State.tickTaking_of_none (h : s.falling = []) : s.tickTaking [] = s.ticked := by
  rw [State.tickTaking_eq, h]
  rfl

/-- Where one timer alone ends at the tick, naming the tick after it makes no difference (log entry 4). -/
theorem State.tickTaking_of_one {i : Falling} (h : s.falling = [i]) :
    s.tickTaking [] = s.ticked.takeFalling i ∧ s.tickTaking [i] = s.ticked.takeFalling i := by
  rw [State.tickTaking_eq, State.tickTaking_eq, h]
  have hself : [i].contains i = true := by simp
  have hfirst : ([i].filter fun x => !([i].contains x)) = [] := by
    rw [List.filter_cons_of_neg (by rw [hself]; exact Bool.false_ne_true), List.filter_nil]
  have hall : ([i].filter fun x => !([] : List Falling).contains x) = [i] := rfl
  rw [hfirst, hall]
  exact ⟨rfl, rfl⟩

end

/-- Settles O37: no item is left to take, so the tick is the advance of the timers. -/
theorem tickAdvancesEveryTimer : Obligations.TickAdvancesEveryTimer := by
  unfold Obligations.TickAdvancesEveryTimer
  intro s h
  rw [exec_tick, State.tickTaking_of_none h]

/-! ### Several items -/

/-- What the taking of every item but the first leaves, the tick leaves as the first item left it. -/
theorem State.tickTaking_keeps {P : State → Prop} {s : State} (first : Falling)
    (hfirst : ∀ n, P (({ s.ticked with choices := n } : State).takeFalling first))
    (hrest : ∀ t i, i ∈ s.falling → i ≠ first → P t → P (t.takeFalling i)) : P (s.tickTaking [first]) := by
  rw [State.tickTaking_eq, State.orderTaken_eq, List.singleton_append, List.foldl_cons]
  have hitems : ∀ i ∈ s.openOrder (s.falling.filter fun x => !([first].contains x)), i ∈ s.falling ∧ i ≠ first := by
    intro i hi
    rw [(s.perm_openOrder _).mem_iff, List.mem_filter] at hi
    exact ⟨hi.1, by simpa using hi.2⟩
  refine List.foldlRecOn _ _ (hfirst _) fun t ht i hi => ?_
  exact hrest t i (hitems i hi).1 (hitems i hi).2 ht

/-- The same for a tick named after none of its items. -/
theorem State.tickTaking_nil_keeps {P : State → Prop} {s : State} (hticked : ∀ n, P { s.ticked with choices := n })
    (hrest : ∀ t i, i ∈ s.falling → P t → P (t.takeFalling i)) : P (s.tickTaking []) := by
  rw [State.tickTaking_eq, State.orderTaken_eq, List.nil_append]
  refine List.foldlRecOn _ _ (hticked _) fun t ht i hi => hrest t i ?_ ht
  rw [(s.perm_openOrder _).mem_iff, List.mem_filter] at hi
  exact hi.1

/-! ### The items a tick brings about -/

theorem timerTick_eq_some_iff (t : Option Nat) (n : Nat) : timerTick t = some n ↔ ∃ m, t = some m ∧ m + 1 = n := by
  simp [timerTick]

section
variable (s : State) (f : FlowIx)

theorem Flow.nextSilence_eq_some_iff (fl : Flow) (n : Nat) :
    fl.nextSilence = some n ↔ fl.rt.state.timed = true ∧ ∃ m, fl.rt.silence = some m ∧ m + 1 = n := by
  unfold Flow.nextSilence
  cases h : fl.rt.state.timed <;> simp [timerTick_eq_some_iff]

theorem State.lateFalls_iff :
    s.lateFalls f = true ↔
      (s.flow f).rt.state.timed = true ∧ ∃ n, (s.flow f).rt.silence = some n ∧ n + 1 = (s.flow f).record.late := by
  rw [State.lateFalls, Bool.and_eq_true, decide_eq_true_iff, beq_iff_eq, Flow.nextSilence_eq_some_iff]
  refine and_iff_right_of_imp ?_
  rintro ⟨-, n, -, hn⟩
  omega

theorem State.cutFalls_iff :
    s.cutFalls f = true ↔
      (s.flow f).rt.state.timed = true ∧ ∃ n, (s.flow f).rt.silence = some n ∧ n + 1 = (s.flow f).record.cut := by
  rw [State.cutFalls, beq_iff_eq, Flow.nextSilence_eq_some_iff]

theorem State.deadlineFalls_iff :
    s.deadlineFalls f = true ↔ (s.flow f).rt.state.isDraining = true ∧ (s.flow f).rt.drain = some 49 := by
  rw [State.deadlineFalls, Bool.and_eq_true, beq_iff_eq, timerTick_eq_some_iff]
  refine and_congr_right fun _ => ⟨fun ⟨m, hm, h50⟩ => ?_, fun h => ⟨49, h, rfl⟩⟩
  rw [hm, show m = 49 by omega]

theorem State.leaseFalls_iff : s.leaseFalls = true ↔ s.mgmt.claim.holder ≠ none ∧ s.mgmt.claim.lease = 1 := by
  rw [State.leaseFalls, Bool.and_eq_true, decide_eq_true_iff, Option.isSome_iff_ne_none]

theorem State.gapFalls_iff : s.gapFalls = true ↔ s.lane.gap = 1 := decide_eq_true_iff

end

/-- The timer of an item ends at the next tick. -/
def State.falls (s : State) : Falling → Bool
  | .late f => s.lateFalls f
  | .cut f => s.cutFalls f
  | .deadline f => s.deadlineFalls f
  | .lease => s.leaseFalls
  | .gap => s.gapFalls

theorem State.mem_falling_iff (s : State) (i : Falling) : i ∈ s.falling ↔ s.falls i = true := by
  cases i <;> simp [State.falling, State.falls, allFlows]

/-! ### What the taking of an item leaves -/

/-- The answer at the end of a drain: to the oldest command, if it waits for this flow (R77, R142). -/
theorem State.answerDrain_cases (s : State) (f : FlowIx) (forced : Bool) :
    s.answerDrain f forced = s ∨
      ∃ c, s.mgmt.deferred = some f ∧ s.mgmt.queue.head? = some c ∧
        s.answerDrain f forced = s.answered c .done (flagByte forced) [] := by
  unfold State.answerDrain
  split
  · next c qs hq =>
    split
    · next hd => exact .inr ⟨c, hd, by rw [hq]; rfl, rfl⟩
    · exact .inl rfl
  · exact .inl rfl

theorem State.endDrain_eq_answerDrain (s : State) (f : FlowIx) (forced : Bool) :
    s.endDrain f forced =
      ((s.setFlow f ((s.flow f).emptied (.cleared .disabled))).withPool
        (s.pool.released (s.flow f).held)).answerDrain f forced := by
  have hdef : s.endDrain f forced = ((s.flush f).setRt f (.cleared .disabled)).answerDrain f forced := rfl
  rw [hdef, State.flush_eq, State.setRt_eq]
  simp [Flow.emptied]

section
variable (s : State) (f : FlowIx) (forced : Bool)

theorem State.flow_answerDrain (x : FlowIx) : (s.answerDrain f forced).flow x = s.flow x := by
  obtain h | ⟨c, -, -, h⟩ := s.answerDrain_cases f forced <;> rw [h]
  rfl

theorem State.lane_answerDrain : (s.answerDrain f forced).lane = s.lane := by
  obtain h | ⟨c, -, -, h⟩ := s.answerDrain_cases f forced <;> rw [h]
  rfl

theorem State.claim_answerDrain : (s.answerDrain f forced).mgmt.claim = s.mgmt.claim := by
  obtain h | ⟨c, -, -, h⟩ := s.answerDrain_cases f forced <;> rw [h]
  rfl

theorem State.flow_endDrain (x : FlowIx) :
    (s.endDrain f forced).flow x = if x = f then (s.flow f).emptied (.cleared .disabled) else s.flow x := by
  rw [State.endDrain_eq_answerDrain, State.flow_answerDrain, State.flow_withPool, State.flow_setFlow]

theorem State.lane_endDrain : (s.endDrain f forced).lane = s.lane := by
  rw [State.endDrain_eq_answerDrain, State.lane_answerDrain]; rfl

theorem State.claim_endDrain : (s.endDrain f forced).mgmt.claim = s.mgmt.claim := by
  rw [State.endDrain_eq_answerDrain, State.claim_answerDrain]; rfl

end

/-- The DRAINING flows, ascending. -/
def State.drainingFlows (s : State) : List FlowIx := allFlows.filter fun f => (s.flow f).rt.state.isDraining

theorem State.mem_drainingFlows_iff (s : State) (f : FlowIx) :
    f ∈ s.drainingFlows ↔ (s.flow f).rt.state.isDraining = true := by simp [State.drainingFlows, allFlows]

theorem State.endDrains_eq (s : State) :
    s.endDrains = s.drainingFlows.foldl (fun s f => s.endDrain f false) s := rfl

theorem State.endDrains_keeps {P : State → Prop} {s : State} (h : P s)
    (hend : ∀ t f, f ∈ s.drainingFlows → P t → P (t.endDrain f false)) : P s.endDrains := by
  rw [State.endDrains_eq]
  exact List.foldlRecOn _ _ h fun t ht f hf => hend t f hf ht

theorem State.lane_endDrains (s : State) : s.endDrains.lane = s.lane :=
  State.endDrains_keeps (P := fun t => t.lane = s.lane) rfl fun t f _ ht => (t.lane_endDrain f false).trans ht

theorem State.claim_endDrains (s : State) : s.endDrains.mgmt.claim = s.mgmt.claim :=
  State.endDrains_keeps (P := fun t => t.mgmt.claim = s.mgmt.claim) rfl fun t f _ ht =>
    (t.claim_endDrain f false).trans ht

theorem State.flow_endDrains {s : State} {x : FlowIx} (hx : (s.flow x).rt.state.isDraining = false) :
    s.endDrains.flow x = s.flow x := by
  refine State.endDrains_keeps (P := fun t => t.flow x = s.flow x) rfl fun t f hf ht => ?_
  have hne : x ≠ f := by
    rintro rfl
    rw [State.mem_drainingFlows_iff, hx] at hf
    exact Bool.noConfusion hf
  rw [State.flow_endDrain, if_neg hne, ht]

theorem State.endDrains_of_none {s : State} (h : ∀ f, (s.flow f).rt.state.isDraining = false) : s.endDrains = s := by
  have hnil : s.drainingFlows = [] := List.filter_eq_nil_iff.2 fun f _ => by rw [h f]; exact Bool.false_ne_true
  rw [State.endDrains_eq, hnil]
  rfl

theorem State.endDrains_of_one {s : State} {f : FlowIx} (hf : (s.flow f).rt.state.isDraining = true)
    (h : ∀ x, x ≠ f → (s.flow x).rt.state.isDraining = false) : s.endDrains = s.endDrain f false := by
  have hone : s.drainingFlows = [f] := List.perm_singleton.1
    ((List.perm_ext_iff_of_nodup (nodup_allFlows.filter _) (List.nodup_singleton f)).2 fun x => by
      change x ∈ s.drainingFlows ↔ _
      rw [State.mem_drainingFlows_iff, List.mem_singleton]
      exact ⟨fun hx => by_contra fun hne => by rw [h x hne] at hx; exact Bool.noConfusion hx, fun hx => hx ▸ hf⟩)
  rw [State.endDrains_eq, hone]
  rfl

theorem State.endOverdue_eq (s : State) (f : FlowIx) :
    s.endOverdue f = if (s.flow f).rt.state.isDraining then s.endDrain f true else s := rfl

/-- Whether an item is about flow `x`. -/
def Falling.concerns (x : FlowIx) : Falling → Prop
  | .late f => f = x
  | .cut f => f = x
  | .deadline f => f = x
  | .lease => False
  | .gap => False

section
variable (s : State) (i : Falling)

/-- An item changes the flow it is about; the loss of the clock, besides, the DRAINING flows. -/
theorem State.flow_takeFalling {x : FlowIx} (hother : ¬ i.concerns x) (hx : (s.flow x).rt.state.isDraining = false) :
    (s.takeFalling i).flow x = s.flow x := by
  cases i with
  | late f => exact State.flow_setFlow_ne s _ (Ne.symm hother)
  | cut f =>
    rw [State.takeFalling, State.cutFlow_eq, State.flow_settleGroupOf]
    exact State.flow_setFlow_ne s _ (Ne.symm hother)
  | deadline f =>
    rw [State.takeFalling, State.endOverdue_eq]
    split
    · rw [State.flow_endDrain, if_neg (Ne.symm hother)]
    · rfl
  | lease => rfl
  | gap =>
    rw [State.takeFalling, State.loseClock]
    split
    · exact State.flow_endDrains hx
    · rfl

theorem State.lane_takeFalling (hother : i ≠ .gap) : (s.takeFalling i).lane = s.lane := by
  cases i with
  | late f => rfl
  | cut f => rw [State.takeFalling, State.cutFlow_eq, State.lane_settleGroupOf]; rfl
  | deadline f =>
    rw [State.takeFalling, State.endOverdue_eq]
    split
    · exact s.lane_endDrain f true
    · rfl
  | lease => rfl
  | gap => exact absurd rfl hother

theorem State.claim_takeFalling (hother : i ≠ .lease) : (s.takeFalling i).mgmt.claim = s.mgmt.claim := by
  cases i with
  | late f => rfl
  | cut f => rw [State.takeFalling, State.cutFlow_eq, State.mgmt_settleGroupOf]; rfl
  | deadline f =>
    rw [State.takeFalling, State.endOverdue_eq]
    split
    · exact s.claim_endDrain f true
    · rfl
  | lease => exact absurd rfl hother
  | gap =>
    rw [State.takeFalling, State.loseClock]
    split
    · exact State.claim_endDrains _
    · rfl

end

/-! ### Thresholds (R74, R75) -/

theorem exec_lateThreshold (s : State) (f : FlowIx) :
    exec (.lateThreshold f) s = .next (if s.lateFalls f then s.tickTaking [.late f] else s) := rfl

theorem exec_cutThreshold (s : State) (f : FlowIx) :
    exec (.cutThreshold f) s = .next (if s.cutFalls f then s.tickTaking [.cut f] else s) := rfl

theorem FlowState.not_draining_of_timed {x : FlowState} (h : x.timed = true) : x.isDraining = false := by
  obtain rfl | rfl | rfl | rfl := x.timed_iff.1 h <;> rfl

/-- At a tick at which one item alone is about flow `f`, the flow is as that item leaves it. -/
theorem State.flow_tickTaking {s : State} {f : FlowIx} {fl : Flow} {first : Falling}
    (hfirst : ∀ n, (({ s.ticked with choices := n } : State).takeFalling first).flow f = fl)
    (hdrain : fl.rt.state.isDraining = false) (halone : ∀ i, i ∈ s.falling → i ≠ first → ¬ i.concerns f) :
    (s.tickTaking [first]).flow f = fl := by
  refine State.tickTaking_keeps (P := fun t => t.flow f = fl) first hfirst fun t i hi hne ht => ?_
  rw [State.flow_takeFalling t i (halone i hi hne) (by rw [ht]; exact hdrain), ht]

section
variable {s : State} {f : FlowIx} {n : Nat} (htimed : (s.flow f).rt.state.timed = true)
  (hsilence : (s.flow f).rt.silence = some n)
include htimed hsilence

/-- Of the items about a flow whose silence timer runs, a tick brings the one its timer reaches. -/
theorem State.concerns_of_timed {i : Falling} (hi : i ∈ s.falling) (hf : i.concerns f) :
    (i = .late f ∧ n + 1 = (s.flow f).record.late) ∨ (i = .cut f ∧ n + 1 = (s.flow f).record.cut) := by
  rw [State.mem_falling_iff] at hi
  cases i with
  | late x =>
    obtain rfl : x = f := hf
    obtain ⟨-, m, hm, hlate⟩ := (s.lateFalls_iff x).1 hi
    exact .inl ⟨rfl, by rw [hsilence, Option.some.injEq] at hm; omega⟩
  | cut x =>
    obtain rfl : x = f := hf
    obtain ⟨-, m, hm, hcut⟩ := (s.cutFalls_iff x).1 hi
    exact .inr ⟨rfl, by rw [hsilence, Option.some.injEq] at hm; omega⟩
  | deadline x =>
    obtain rfl : x = f := hf
    have hdraining := ((s.deadlineFalls_iff x).1 hi).1
    rw [FlowState.not_draining_of_timed htimed] at hdraining
    exact Bool.noConfusion hdraining
  | lease => exact hf.elim
  | gap => exact hf.elim

end

theorem State.state_ticked (s : State) (f : FlowIx) : (s.ticked.flow f).rt.state = (s.flow f).rt.state := by
  rw [State.flow_ticked]

theorem State.group_ticked (s : State) (g : GroupIx) : s.ticked.group g = s.group g := by
  simp only [State.ticked, State.group]

theorem State.pool_ticked (s : State) : s.ticked.pool = s.pool := by simp only [State.ticked]

/-- The timers play no part in who leads a group. -/
theorem State.groupsAfterLoss_ticked {s t : State} {f : FlowIx} (h : s.ticked.groupsAfterLoss t f) :
    s.groupsAfterLoss t f := by
  intro g
  have hleads : s.ticked.leads f g ↔ s.leads f g := by
    have hcandidate (x : FlowIx) : s.ticked.candidate g x = s.candidate g x := by
      simp only [State.candidate, State.isMember, State.flow_ticked]
    simp only [State.leads, hcandidate, State.flow_ticked, State.group_ticked]
  have hg := h g
  rw [hleads, State.group_ticked] at hg
  exact hg

theorem State.takeFalling_late (s : State) (f : FlowIx) :
    s.takeFalling (.late f) =
      (s.setFlow f { s.flow f with rt := { (s.flow f).rt with late := true } }).withNotice
        (s.notice.take { kind := .flowLate, subject := .flow f, detail := 0, dest := none }) := rfl

theorem State.flow_takeFalling_cut (s : State) (f : FlowIx) :
    (s.takeFalling (.cut f)).flow f = (s.flow f).emptied (s.flow f).rt.toCut := by
  rw [State.takeFalling, State.cutFlow_eq, State.flow_settleGroupOf, State.flow_withNotice, State.flow_withPool,
    State.flow_setFlow_self]

/-- A cut, besides the flow itself, touches its group alone. -/
theorem State.takeFalling_cut (s : State) (f : FlowIx) :
    (∀ x, x ≠ f → (s.takeFalling (.cut f)).flow x = s.flow x) ∧
      (s.takeFalling (.cut f)).pool = s.pool.released (s.flow f).held ∧
      (s.takeFalling (.cut f)).notice = s.notice.take (flowStateRaise f .cut) ∧
      s.groupsAfterLoss (s.takeFalling (.cut f)) f ∧ s.sameElsewhere (s.takeFalling (.cut f)) := by
  rw [State.takeFalling, State.cutFlow_eq]
  refine ⟨fun x hx => ?_, ?_, ?_, s.groupsAfterLoss_settle _ f (fun g => rfl) (fun x hx => ?_) ?_ ?_, ?_⟩
  · rw [State.flow_settleGroupOf]
    exact State.flow_setFlow_ne s _ hx
  · rw [State.pool_settleGroupOf]; rfl
  · rw [State.notice_settleGroupOf]; rfl
  · exact State.flow_setFlow_ne s _ hx
  · simp [Flow.emptied]
  · simp [Flow.emptied, Runtime.toCut, FlowState.playsOrHolds]
  · refine ⟨?_, ?_, ?_, ?_, ?_⟩ <;> simp

theorem State.flow_ticked_choices (s : State) (n : Nat) (f : FlowIx) :
    ({ s.ticked with choices := n } : State).flow f = s.ticked.flow f := by simp only [State.flow]

/-- Settles O38: of the items of the tick the named one alone is about the flow, and where it is the only item of the
tick the whole unit is as it leaves it. -/
theorem thresholdsMarkLateOrCut : Obligations.ThresholdsMarkLateOrCut := by
  unfold Obligations.ThresholdsMarkLateOrCut
  intro s f fl
  dsimp only
  refine ⟨fun n htimed hsilence hbefore => ⟨fun hlate => ⟨?late, fun hone => ?lateAlone⟩, fun hcut => ?cut⟩,
    fun h => ?notLate, fun h => ?notCut⟩
  case late =>
    refine ⟨_, (exec_lateThreshold s f).trans
      (congrArg _ (if_pos ((s.lateFalls_iff f).2 ⟨htimed, n, hsilence, hlate⟩))), ?_⟩
    refine State.flow_tickTaking (fun n => ?_) ?_ fun i hi hne hf => ?_
    · rw [State.takeFalling_late, State.flow_withNotice, State.flow_setFlow_self, State.flow_ticked_choices]
    · rw [State.state_ticked, FlowState.not_draining_of_timed htimed]
    · obtain ⟨rfl, -⟩ | ⟨-, hcut⟩ := State.concerns_of_timed htimed hsilence hi hf
      · exact hne rfl
      · exact hbefore.ne (hlate.symm.trans hcut)
  case lateAlone =>
    obtain ⟨hall, hfirst⟩ := State.tickTaking_of_one hone
    rw [exec_tick, exec_lateThreshold, if_pos ((s.lateFalls_iff f).2 ⟨htimed, n, hsilence, hlate⟩), hall, hfirst,
      State.takeFalling_late]
    exact ⟨rfl, rfl⟩
  case cut =>
    refine ⟨_, (exec_cutThreshold s f).trans
      (congrArg _ (if_pos ((s.cutFalls_iff f).2 ⟨htimed, n, hsilence, hcut⟩))), ?_, fun hone => ?_⟩
    · refine State.flow_tickTaking (fun n => ?_) rfl fun i hi hne hf => ?_
      · rw [State.flow_takeFalling_cut, State.flow_ticked_choices, State.flow_ticked]
        rfl
      · obtain ⟨-, hlate⟩ | ⟨rfl, -⟩ := State.concerns_of_timed htimed hsilence hi hf
        · exact hbefore.ne (hlate.symm.trans hcut)
        · exact hne rfl
    · obtain ⟨hall, hfirst⟩ := State.tickTaking_of_one hone
      obtain ⟨hothers, hpool, hnotice, hgroups, hsame⟩ := s.ticked.takeFalling_cut f
      have hheld : (s.ticked.flow f).held = fl.held := by rw [State.flow_ticked]
      rw [State.pool_ticked, hheld] at hpool
      rw [exec_tick, hall, hfirst]
      exact ⟨rfl, hothers, hpool, hnotice, State.groupsAfterLoss_ticked hgroups, hsame⟩
  case notLate => rw [exec_lateThreshold, if_neg (mt (s.lateFalls_iff f).1 h)]
  case notCut => rw [exec_cutThreshold, if_neg (mt (s.cutFalls_iff f).1 h)]

/-! ### The claim lease (R138) and the gap timer (R98) -/

theorem exec_leaseExpiry (s : State) :
    exec .leaseExpiry s = .next (if s.leaseFalls then s.tickTaking [.lease] else s) := rfl

theorem exec_laneClockGap (s : State) :
    exec .laneClockGap s = .next (if s.gapFalls then s.tickTaking [.gap] else s) := rfl

theorem State.mgmt_ticked (s : State) :
    s.ticked.mgmt = { s.mgmt with claim := { s.mgmt.claim with lease := s.mgmt.claim.lease - 1 } } := by
  simp only [State.ticked]

theorem State.expireClaim_eq {s : State} {a : Addr} (h : s.mgmt.claim.holder = some a) :
    s.expireClaim = (s.withMgmt { s.mgmt with claim := { holder := none, lease := 0, length := 0 } }).withNotice
      (s.notice.take { kind := .claimLost, subject := .none, detail := 0, dest := some a }) := by
  rw [State.expireClaim, h]
  rfl

/-- Settles O40: the expiry is the one item of a tick that touches the claim. -/
theorem leaseExpiryClearsClaim : Obligations.LeaseExpiryClearsClaim := by
  unfold Obligations.LeaseExpiryClearsClaim
  intro s u
  refine ⟨fun a hholder hlease => ⟨?expires, fun hone => ?alone⟩, fun a hholder hlease => ?runs, fun h => ?not⟩
  case expires =>
    have hfalls := s.leaseFalls_iff.2 ⟨by rw [hholder]; exact nofun, hlease⟩
    refine ⟨_, (exec_leaseExpiry s).trans (congrArg _ (if_pos hfalls)), ?_⟩
    exact State.tickTaking_keeps (P := fun t => t.mgmt.claim = { holder := none, lease := 0, length := 0 }) .lease
      (fun _ => rfl) fun t i _ hne ht => (t.claim_takeFalling i hne).trans ht
  case alone =>
    obtain ⟨hall, hfirst⟩ := State.tickTaking_of_one hone
    have hfalls := s.leaseFalls_iff.2 ⟨by rw [hholder]; exact nofun, hlease⟩
    have hexpired := State.expireClaim_eq (s := u) (by rw [State.mgmt_ticked]; exact hholder)
    rw [State.mgmt_ticked] at hexpired
    rw [exec_tick, exec_leaseExpiry, if_pos hfalls, hall, hfirst, State.takeFalling, hexpired]
    exact ⟨rfl, rfl⟩
  case runs =>
    have hfalls : Falling.lease ∉ s.falling := by
      rw [State.mem_falling_iff]
      exact fun h => hlease.ne' (s.leaseFalls_iff.1 h).2
    refine ⟨_, exec_tick s, ?_⟩
    exact State.tickTaking_nil_keeps (P := fun t =>
      t.mgmt.claim = { s.mgmt.claim with lease := s.mgmt.claim.lease - 1 })
      (fun _ => rfl) fun t i hi ht => (t.claim_takeFalling i fun h => hfalls (h ▸ hi)).trans ht
  case not => rw [exec_leaseExpiry, if_neg (mt s.leaseFalls_iff.1 h)]

/-- The lane unit once the lane clock is lost (R98). -/
def LaneUnit.lost (l : LaneUnit) : LaneUnit := { l with status := .absent, run := 0 }

theorem State.loseClock_absent {s : State} (h : s.lane.status = .absent) :
    s.loseClock = s.withLane s.lane.lost := by
  rw [State.loseClock, h, LaneUnit.lost]
  simp only [← h]

theorem State.loseClock_present {s : State} (h : s.lane.status = .present) :
    s.loseClock = ((s.withLane s.lane.lost).withNotice (s.notice.take (laneClockRaise false))).endDrains := by
  rw [State.loseClock, h]
  rfl

theorem State.lane_loseClock (s : State) : s.loseClock.lane = s.lane.lost := by
  cases h : s.lane.status with
  | absent => rw [State.loseClock_absent h]; rfl
  | present => rw [State.loseClock_present h, State.lane_endDrains]; rfl

theorem State.lane_ticked {s : State} (h : s.lane.gap = 1) : s.ticked.lane = { s.lane with gap := 2 } := by
  rw [State.ticked, h]
  rfl

theorem State.lost_ticked {s : State} (h : s.lane.gap = 1) :
    s.ticked.lane.lost = { s.lane with status := .absent, gap := 2, run := 0 } := by
  rw [State.lane_ticked h]
  rfl

/-- Settles O41: the loss of the clock is the one item of a tick that touches the lane unit. -/
theorem clockGapMakesClockAbsent : Obligations.ClockGapMakesClockAbsent := by
  unfold Obligations.ClockGapMakesClockAbsent
  intro s u lost
  refine ⟨fun hgap => ⟨?lost, fun hone => ?alone⟩, fun h => ?not⟩
  case lost =>
    refine ⟨_, (exec_laneClockGap s).trans (congrArg _ (if_pos (s.gapFalls_iff.2 hgap))), ?_⟩
    refine State.tickTaking_keeps (P := fun t => t.lane = lost.lane) .gap (fun n => ?_) fun t i _ hne ht =>
      (t.lane_takeFalling i hne).trans ht
    rw [State.takeFalling, State.lane_loseClock]
    dsimp only
    rw [State.lost_ticked hgap]
    rfl
  case alone =>
    obtain ⟨hall, hfirst⟩ := State.tickTaking_of_one hone
    have hstatus : s.ticked.lane.status = s.lane.status := by rw [State.lane_ticked hgap]
    rw [exec_tick, exec_laneClockGap, if_pos (s.gapFalls_iff.2 hgap), hall, hfirst, State.takeFalling]
    refine ⟨rfl, fun ha => ?_, fun hp hnone => ?_⟩
    · rw [State.loseClock_absent (hstatus.trans ha), State.lost_ticked hgap]
    · rw [State.loseClock_present (hstatus.trans hp), State.endDrains_of_none fun f => ?_, State.lost_ticked hgap]
      · rfl
      · rw [State.flow_withNotice, State.flow_withLane, State.state_ticked, hnone f]
  case not => rw [exec_laneClockGap, if_neg (mt s.gapFalls_iff.1 h)]

/-! ### The end of a drain (R77) -/

theorem exec_drainDeadline (s : State) (f : FlowIx) :
    exec (.drainDeadline f) s = .next (if s.deadlineFalls f then s.tickTaking [.deadline f] else s) := rfl

theorem State.candidate_of_reference {s : State} {g : GroupIx} {f : FlowIx} (h : s.reference g = some f) :
    s.candidate g f = true := by
  have hfind {o : Option FlowIx} (ho : o = some f) (hfound : o = allFlows.find? (s.candidate g)) :
      s.candidate g f = true := List.find?_some (hfound ▸ ho)
  unfold State.reference at h
  split at h
  · split at h
    · next hp => exact Option.some.inj h ▸ hp
    · exact hfind h rfl
  · exact hfind h rfl

theorem State.isSome_reference_iff (s : State) (g : GroupIx) :
    (s.reference g).isSome = true ↔ ∃ f, s.candidate g f = true := by
  constructor
  · intro h
    obtain ⟨f, hf⟩ := Option.isSome_iff_exists.1 h
    exact ⟨f, State.candidate_of_reference hf⟩
  · rintro ⟨f, hf⟩
    by_contra hnone
    have hfind (o : Option FlowIx) (ho : o = allFlows.find? (s.candidate g)) : o.isSome = true := by
      rw [ho, List.find?_isSome]
      exact ⟨f, List.mem_finRange f, hf⟩
    apply hnone
    unfold State.reference
    split
    · split
      · rfl
      · exact hfind _ rfl
    · exact hfind _ rfl

theorem State.refersTo_of_not_plays {s : State} {f : FlowIx} (h : (s.flow f).rt.state.playsOrHolds = false) :
    s.refersTo f = none := by
  unfold State.refersTo
  cases (s.flow f).record.group with
  | none => rfl
  | some g =>
    refine if_neg fun hled => ?_
    have hcandidate := State.candidate_of_reference hled.2
    rw [State.candidate, h, Bool.and_false] at hcandidate
    exact Bool.noConfusion hcandidate

/-- Where every RUNNING group has a candidate, there is nothing to settle. -/
theorem State.settleGroupOf_of_candidates {s : State} (f : FlowIx)
    (h : ∀ g, (s.group g).state = .running → ∃ x, s.candidate g x = true) : s.settleGroupOf f = s := by
  cases hg : (s.flow f).record.group with
  | none => simp only [State.settleGroupOf, hg]
  | some g =>
    rw [State.settleGroupOf_of_group hg]
    by_cases hrunning : (s.group g).state = .running
    · obtain ⟨x, hx⟩ := h g hrunning
      exact State.settleGroup_of_candidate hx
    · exact if_neg fun hsettles => hrunning hsettles.1

theorem FlowState.playsOrHolds_of_draining {x : FlowState} {m : DrainMode} (h : x = .draining m) :
    x.playsOrHolds = false := by rw [h]; rfl

section
variable {s : State} {f : FlowIx} {c : QueuedCommand} (hd : s.mgmt.deferred = some f) (hq : s.mgmt.queue.head? = some c)
include hd hq

theorem State.drainBoundary_eq (m : DrainMode) :
    s.drainBoundary f m =
      (((s.setFlow f ((match m with | .playing => (s.flow f).bump .played | .holding => s.flow f).emptied
          { Runtime.reset with state := .disabled })).withPool (s.pool.released (s.flow f).held)).withNotice
          (s.notice.takeAll (match m with | .playing => s.wrapRaises f .played | .holding => []))).answered
        c .done 0 [] := by
  cases m with
  | playing =>
    rw [State.drainBoundary, State.count_eq, State.endDrain_eq (s.counted f .played) f false (c := c) hd hq]
    simp [State.counted, Flow.bump, flagByte]
    rfl
  | holding =>
    rw [State.drainBoundary, State.endDrain_eq _ f false (c := c) hd hq]
    rfl

end

section
variable {s : State} {f : FlowIx} {m : DrainMode} {c : QueuedCommand} (hst : (s.flow f).rt.state = .draining m)
  (hd : s.mgmt.deferred = some f) (hq : s.mgmt.queue.head? = some c)
include hst hd hq

/-- The flow was no candidate of its group, so its group is as it was (R82). -/
theorem exec_blockBoundary_draining (hrefs : s.ReferencesLawful)
    (hlen : (s.flow f).rt.blockLen = some (s.flow f).rt.readIndex) :
    exec (.blockBoundary f) s = .next (s.drainBoundary f m) := by
  have hdraining : (s.flow f).rt.state.isDraining = true := by rw [hst]; rfl
  have hown : s.ownBoundary f = s.drainBoundary f m := by simp only [State.ownBoundary, hst]
  rw [exec_blockBoundary ((Flow.boundaryDue_iff _).2 ⟨.inr (.inr hdraining), hlen⟩),
    State.refersTo_of_not_plays (FlowState.playsOrHolds_of_draining hst), hown, State.groupPart,
    State.settleGroupOf_of_candidates]
  intro g hrunning
  rw [State.drainBoundary_eq hd hq] at hrunning ⊢
  obtain ⟨x, hx⟩ := (s.isSome_reference_iff g).1 ((hrefs g).1 hrunning)
  have hne : x ≠ f := by
    rintro rfl
    rw [State.candidate, FlowState.playsOrHolds_of_draining hst, Bool.and_false] at hx
    exact Bool.noConfusion hx
  refine ⟨x, ?_⟩
  simpa [State.candidate, State.isMember, State.flow_setFlow_ne s _ hne] using hx

end

/-- The loss of the clock ends the one drain that runs (R98, R99). -/
theorem State.loseClock_endDrain {s : State} {f : FlowIx} {c : QueuedCommand} (hp : s.lane.status = .present)
    (hf : (s.flow f).rt.state.isDraining = true) (h : ∀ x, x ≠ f → (s.flow x).rt.state.isDraining = false)
    (hd : s.mgmt.deferred = some f) (hq : s.mgmt.queue.head? = some c) :
    s.loseClock =
      ((((s.withLane s.lane.lost).withNotice (s.notice.take (laneClockRaise false))).setFlow f
        ((s.flow f).emptied (.cleared .disabled))).withPool (s.pool.released (s.flow f).held)).answered c .done 0
        [] := by
  calc s.loseClock
      = ((s.withLane s.lane.lost).withNotice (s.notice.take (laneClockRaise false))).endDrains :=
        State.loseClock_present hp
    _ = ((s.withLane s.lane.lost).withNotice (s.notice.take (laneClockRaise false))).endDrain f false :=
        State.endDrains_of_one hf h
    _ = _ := State.endDrain_eq _ f false hd hq

/-- Settles O39: at the boundary, at the deadline and at the loss of the clock the flow is flushed to DISABLED, and the
command that waits for it is answered. -/
theorem drainEndsOnceDisabled : Obligations.DrainEndsOnceDisabled := by
  unfold Obligations.DrainEndsOnceDisabled
  refine ⟨fun s f h => ?notDeadline, fun s f m c hrefs hst hd hq => ?ends⟩
  case notDeadline => rw [exec_drainDeadline, if_neg (mt (s.deadlineFalls_iff f).1 h)]
  case ends =>
    intro fl
    dsimp only
    have hdraining : fl.rt.state.isDraining = true := by rw [hst]; rfl
    have hflow (rt : Runtime) : (s.ticked.flow f).emptied rt = fl.emptied rt := by rw [State.flow_ticked]; rfl
    have hheld : (s.ticked.flow f).held = fl.held := by rw [State.flow_ticked]
    have hd' : s.ticked.mgmt.deferred = some f := by rw [State.mgmt_ticked, hd]
    have hq' : s.ticked.mgmt.queue.head? = some c := by rw [State.mgmt_ticked, hq]
    refine ⟨fun hlen => ?boundary, fun hdeadline hone => ?deadline, fun hp hone hothers => ?clock⟩
    case boundary =>
      exact (exec_blockBoundary_draining hst hd hq hrefs hlen).trans (congrArg _ (State.drainBoundary_eq hd hq m))
    case deadline =>
      obtain ⟨hall, hfirst⟩ := State.tickTaking_of_one hone
      have hend : s.ticked.takeFalling (.deadline f) =
          ((s.ticked.setFlow f (fl.emptied (.cleared .disabled))).withPool
          (s.pool.released fl.held)).answered c .done 1 [] := by
        have hstill : (s.ticked.flow f).rt.state.isDraining = true := by rw [State.state_ticked, hdraining]
        rw [State.takeFalling, State.endOverdue_eq, if_pos hstill, State.endDrain_eq s.ticked f true hd' hq', hflow,
          hheld, State.pool_ticked]
        rfl
      rw [exec_tick, exec_drainDeadline, if_pos ((s.deadlineFalls_iff f).2 ⟨hdraining, hdeadline⟩), hall, hfirst, hend]
      exact ⟨rfl, rfl⟩
    case clock =>
      obtain ⟨hall, hfirst⟩ := State.tickTaking_of_one hone
      have hfalls : s.gapFalls = true := (s.mem_falling_iff .gap).1 (by rw [hone]; exact List.mem_singleton_self _)
      have hgap := s.gapFalls_iff.1 hfalls
      have hstatus : s.ticked.lane.status = .present := by rw [State.lane_ticked hgap, hp]
      have hend := State.loseClock_endDrain (s := s.ticked) (f := f) hstatus (by rw [State.state_ticked, hdraining])
        (fun x hx => by rw [State.state_ticked, hothers x hx]) hd' hq'
      rw [hflow, hheld, State.pool_ticked, State.lost_ticked hgap] at hend
      rw [exec_tick, exec_laneClockGap, if_pos hfalls, hall, hfirst, State.takeFalling, hend]
      exact ⟨rfl, rfl⟩

end Sys2Proof.Machine
end

section
/-! The Notice Unit's part of a tick (R155, R156): which entry a tick makes due, gives up, chooses and sends. -/

namespace Sys2Proof.Machine

theorem exec_noticeDue (s : State) (number : Byte) :
    exec (.noticeDue number) s = .next (if s.noticeFalls number then s.tickTaking [] else s) := rfl

/-- A tick makes an entry due where its retry timer stands one below its interval in use. -/
theorem NoticeEntry.becomesDue_iff (e : NoticeEntry) :
    (e.isSent && !e.due && e.aged.due) = true ↔ ∃ m, e.condition = .sent m (m + 1) := by
  cases h : e.condition with
  | pending => simp [NoticeEntry.isSent, h]
  | sent m j =>
    simp only [NoticeEntry.isSent, NoticeEntry.due, NoticeEntry.aged, h, Bool.true_and, Bool.and_eq_true,
      Bool.not_eq_true', decide_eq_false_iff_not, decide_eq_true_eq, NoticeCondition.sent.injEq]
    split
    · exact ⟨fun ⟨_, _⟩ => ⟨m, rfl, by omega⟩, fun ⟨n, hn, hj⟩ => by omega⟩
    · exact ⟨fun ⟨_, _⟩ => by omega, fun ⟨n, hn, hj⟩ => by omega⟩

theorem State.noticeFalls_iff (s : State) (number : Byte) :
    s.noticeFalls number = true ↔
      ∃ e ∈ s.notice.entries, e.number = number ∧ ∃ m, e.condition = .sent m (m + 1) := by
  rw [State.noticeFalls, List.any_eq_true]
  refine exists_congr fun e => and_congr_right fun _ => ?_
  rw [Bool.and_assoc, Bool.and_assoc, Bool.and_eq_true, beq_iff_eq, ← Bool.and_assoc, NoticeEntry.becomesDue_iff]

theorem exec_noticeDue_falls {s : State} {e : NoticeEntry} {m : Nat} (he : e ∈ s.notice.entries)
    (hm : e.condition = .sent m (m + 1)) (hnone : s.falling = []) : exec (.noticeDue e.number) s = .next s.ticked := by
  rw [exec_noticeDue, if_pos ((s.noticeFalls_iff _).2 ⟨e, he, rfl, m, hm⟩), State.tickTaking_of_none hnone]

/-! ### The choice (R155 step 3) -/

theorem NoticeUnit.eligible_iff (n : NoticeUnit) (e : NoticeEntry) :
    n.eligible e = true ↔
      e.condition = .pending ∧
        ¬ ∃ y ∈ n.entries, y.condition ≠ .pending ∧ y.kind = e.kind ∧ y.subject = e.subject := by
  simp [NoticeUnit.eligible, NoticeEntry.sameMatter, NoticeEntry.isSent_eq_false_iff, NoticeEntry.isSent_iff]

section
variable {n : NoticeUnit} {before behind : List NoticeEntry} {e : NoticeEntry}

/-- The oldest due entry that may be sent again is chosen. -/
theorem NoticeUnit.choose_due (hes : n.entries = before ++ e :: behind) (he : n.mayResend e = true)
    (hb : ∀ x ∈ before, n.mayResend x = false) : n.choose = some e := by
  have hfound : n.entries.find? n.mayResend = some e := by rw [hes, find?_at _ _ _ _ hb he]
  rw [NoticeUnit.choose, hfound]

/-- Where no due entry may be sent again, the choice is among the PENDING ones. -/
theorem NoticeUnit.choose_pending (h : ∀ x ∈ n.entries, n.mayResend x = false) :
    n.choose =
      if n.offer = none ∧ (n.entries.filter NoticeEntry.isSent).length < 4 then n.entries.find? n.eligible
      else none := by
  have hnone : n.entries.find? n.mayResend = none := List.find?_eq_none.2 fun x hx => by simp [h x hx]
  simp only [NoticeUnit.choose, hnone, Bool.and_eq_true, decide_eq_true_eq, Option.isNone_iff_eq_none]

/-- Where a frame is on offer and no due entry may be sent again, nothing is chosen. -/
theorem NoticeUnit.choose_of_offer (h : ∀ x ∈ n.entries, n.mayResend x = false) (ho : n.offer ≠ none) :
    n.choose = none := by
  rw [NoticeUnit.choose_pending h, if_neg fun hc => ho hc.1]

end

/-! ### The notice unit after the tick -/

section
variable {s : State}

theorem State.notice_ticked_of_none (h : s.ring.own = 63 ∨ s.notice.ageAndGiveUp.choose = none) :
    s.ticked.notice = s.notice.ageAndGiveUp := by
  rw [State.notice_ticked, State.noticeTick]
  obtain h | h := h
  · rw [State.not_assigned_of s h]; rfl
  · rw [h]
    split <;> rfl

theorem State.notice_ticked_of_some {before behind : List NoticeEntry} {e : NoticeEntry} (hown : s.ring.own ≠ 63)
    (hchoose : s.notice.ageAndGiveUp.choose = some e) (hes : s.notice.staying = before ++ e :: behind)
    (he : e ∉ before) :
    s.ticked.notice =
      { s.notice.ageAndGiveUp with
        entries := before ++ e.sentAt s.notice.retry :: behind, offer := some (e.frameFor s.mgmt.claim.holder) } := by
  have hupdate : updateFirst (fun x => decide (x = e)) (NoticeEntry.sentAt s.notice.retry) (before ++ e :: behind) =
      before ++ e.sentAt s.notice.retry :: behind :=
    updateFirst_at _ _ _ _ _ (fun y hy => decide_eq_false fun h => he (h ▸ hy)) (decide_eq_true rfl)
  rw [State.notice_ticked, State.noticeTick, if_pos (s.assigned_of hown), hchoose, State.notice_withNotice,
    NoticeUnit.send, NoticeUnit.ageAndGiveUp_eq, hes, hupdate, NoticeEntry.frameFor_eq]

end

theorem map_updateFirst {α β : Type} {p : α → Bool} {g : α → α} {f : α → β} (h : ∀ x, f (g x) = f x) (l : List α) :
    (updateFirst p g l).map f = l.map f := by
  induction l with
  | nil => rfl
  | cons x l ih =>
    rw [updateFirst]
    split
    · rw [List.map_cons, List.map_cons, h]
    · rw [List.map_cons, List.map_cons, ih]

/-- A send changes neither the numbers nor the count of the entries lost. -/
theorem State.notice_ticked_keeps (s : State) :
    s.ticked.notice.entries.map NoticeEntry.number = s.notice.staying.map NoticeEntry.number ∧
      s.ticked.notice.lost = s.notice.lost + BitVec.ofNat 32 s.notice.leaving.length := by
  rw [State.notice_ticked, State.noticeTick]
  have haged : s.notice.ageAndGiveUp.entries.map NoticeEntry.number = s.notice.staying.map NoticeEntry.number ∧
      s.notice.ageAndGiveUp.lost = s.notice.lost + BitVec.ofNat 32 s.notice.leaving.length := by
    rw [NoticeUnit.ageAndGiveUp_eq]
    exact ⟨rfl, rfl⟩
  split
  · split
    · exact ⟨(map_updateFirst (g := NoticeEntry.sentAt _) (fun _ => rfl) _).trans haged.1, haged.2⟩
    · exact haged
  · exact haged

section
variable {n : NoticeUnit}

theorem NoticeUnit.mayResend_ageAndGiveUp_iff (x : NoticeEntry) :
    n.ageAndGiveUp.mayResend x = true ↔
      x.isDue = true ∧ (n.offerStaying = none ∨ ∃ o, n.offerStaying = some o ∧ o.number = x.number) := by
  rw [NoticeUnit.mayResend_iff, NoticeUnit.ageAndGiveUp_eq]

theorem NoticeUnit.mayResend_ageAndGiveUp_of_not_due {x : NoticeEntry} (h : x.isDue = false) :
    n.ageAndGiveUp.mayResend x = false := by
  rw [← Bool.not_eq_true, NoticeUnit.mayResend_ageAndGiveUp_iff, h]
  exact fun hdue => Bool.noConfusion hdue.1

/-- What stays and is due has been sent fewer than 3 times. -/
theorem NoticeUnit.sendCount_lt_of_staying {x : NoticeEntry} (hx : x ∈ n.staying) (hdue : x.isDue = true) :
    x.sendCount < 3 := by
  have hstays := (List.mem_filter.1 hx).2
  rw [hdue] at hstays
  simpa using hstays

end

theorem saturate_of_lt {n : Nat} (h : n < 256) : saturate n = n := Nat.min_eq_left (by omega)

/-! ### One entry that falls due -/

section
variable {n : NoticeUnit} {before behind : List NoticeEntry} {e : NoticeEntry} {m i : Nat}
  (hes : n.entries = before ++ e :: behind) (he : e.condition = .sent m i) (hi : m + 1 = i)
  (hothers : ∀ x ∈ before ++ behind, x.number ≠ e.number ∧ ∀ m j, x.condition = .sent m j → m + 1 < j)

theorem NoticeEntry.isDue_later_of_running {x : NoticeEntry} (h : ∀ m j, x.condition = .sent m j → m + 1 < j) :
    x.later.isDue = false := by
  unfold NoticeEntry.later
  cases hx : x.condition with
  | pending => simp [NoticeEntry.isDue, hx]
  | sent m j =>
    have hlt := h m j hx
    simp only [NoticeEntry.isDue, decide_eq_false_iff_not]
    split <;> omega

@[simp] theorem NoticeEntry.number_later (x : NoticeEntry) : x.later.number = x.number := by
  unfold NoticeEntry.later; split <;> rfl

@[simp] theorem NoticeEntry.sendCount_later (x : NoticeEntry) : x.later.sendCount = x.sendCount := by
  unfold NoticeEntry.later; split <;> rfl

include he hi in
theorem NoticeEntry.later_of_falling : e.later = { e with condition := .sent i i } := by
  unfold NoticeEntry.later
  rw [he]
  dsimp only
  rw [if_pos (by omega), hi]

include hothers in
theorem NoticeEntry.filter_later_of_running (p : NoticeEntry → Bool) {l : List NoticeEntry}
    (hl : l ⊆ before ++ behind) :
    ((l.map NoticeEntry.later).filter fun x => x.isDue && p x) = [] ∧
      ((l.map NoticeEntry.later).filter fun x => !(x.isDue && p x)) = l.map NoticeEntry.later := by
  have hrun : ∀ x ∈ l.map NoticeEntry.later, x.isDue = false := by
    intro x hx
    obtain ⟨y, hy, rfl⟩ := List.mem_map.1 hx
    exact NoticeEntry.isDue_later_of_running (hothers y (hl hy)).2
  exact ⟨List.filter_eq_nil_iff.2 fun x hx => by simp [hrun x hx],
    List.filter_eq_self.2 fun x hx => by simp [hrun x hx]⟩

include hes hothers

include he hi in
theorem NoticeUnit.staying_of_given_up (hsends : 3 ≤ e.sendCount) :
    n.leaving = [e.later] ∧ n.staying = (before ++ behind).map NoticeEntry.later := by
  have hdue : e.later.isDue = true := by rw [NoticeEntry.later_of_falling he hi]; simp [NoticeEntry.isDue]
  obtain ⟨hb, hb'⟩ := NoticeEntry.filter_later_of_running hothers (fun x => decide (3 ≤ x.sendCount))
    (List.subset_append_left before behind)
  obtain ⟨ha, ha'⟩ := NoticeEntry.filter_later_of_running hothers (fun x => decide (3 ≤ x.sendCount))
    (List.subset_append_right before behind)
  constructor
  · rw [NoticeUnit.leaving, hes, List.map_append, List.filter_append, hb, List.map_cons, List.filter_cons, ha]
    simp [hdue, hsends]
  · rw [NoticeUnit.staying, hes, List.map_append, List.filter_append, hb', List.map_cons, List.filter_cons, ha']
    simp [hdue, hsends]

theorem NoticeUnit.staying_of_sent_again (hsends : e.sendCount < 3) :
    n.leaving = [] ∧
      n.staying = before.map NoticeEntry.later ++ e.later :: behind.map NoticeEntry.later := by
  obtain ⟨hb, hb'⟩ := NoticeEntry.filter_later_of_running hothers (fun x => decide (3 ≤ x.sendCount))
    (List.subset_append_left before behind)
  obtain ⟨ha, ha'⟩ := NoticeEntry.filter_later_of_running hothers (fun x => decide (3 ≤ x.sendCount))
    (List.subset_append_right before behind)
  constructor
  · rw [NoticeUnit.leaving, hes, List.map_append, List.filter_append, hb, List.map_cons, List.filter_cons, ha]
    simp [hsends]
  · rw [NoticeUnit.staying, hes, List.map_append, List.filter_append, hb', List.map_cons, List.filter_cons, ha']
    simp [hsends]

end

theorem NoticeUnit.offerStaying_of_none_leaving {n : NoticeUnit} (h : n.leaving = []) : n.offerStaying = n.offer := by
  rw [NoticeUnit.offerStaying, h]
  cases n.offer <;> rfl

/-- The due part of a tick, for any list (R155 steps 2 to 4). -/
theorem State.notice_ticked_due {s : State} {before behind : List NoticeEntry} {e : NoticeEntry}
    (hown : s.ring.own ≠ 63) (hes : s.notice.staying = before ++ e :: behind) (hdue : e.isDue = true)
    (hfree : s.notice.offerStaying = none ∨ ∃ o, s.notice.offerStaying = some o ∧ o.number = e.number)
    (hfirst : ∀ x ∈ before, s.notice.ageAndGiveUp.mayResend x = false) (he : e ∉ before) :
    s.ticked.notice.entries =
        before ++ { e with condition := .sent 0 s.notice.retry, sendCount := e.sendCount + 1 } :: behind ∧
      s.ticked.notice.offer = some (e.frameFor s.mgmt.claim.holder) := by
  have hes' : s.notice.ageAndGiveUp.entries = before ++ e :: behind := by rw [NoticeUnit.ageAndGiveUp_eq, ← hes]
  have hchoose := NoticeUnit.choose_due hes' ((NoticeUnit.mayResend_ageAndGiveUp_iff e).2 ⟨hdue, hfree⟩) hfirst
  have hcount := NoticeUnit.sendCount_lt_of_staying (by rw [hes]; simp) hdue
  rw [State.notice_ticked_of_some hown hchoose hes he, NoticeEntry.sentAt, saturate_of_lt (by omega)]
  exact ⟨rfl, rfl⟩

/-- Settles O42: the first part is the guard of the event, the second the rule for any list, the third its reading for
one entry that falls due. -/
theorem dueNoticeIsSentAgainOrGivenUp : Obligations.DueNoticeIsSentAgainOrGivenUp := by
  unfold Obligations.DueNoticeIsSentAgainOrGivenUp
  refine ⟨fun s number h => ?guard, fun s hnone => ?all, fun s before behind e m i hes he hi hothers hnone => ?one⟩
  case guard =>
    rw [exec_noticeDue, if_neg]
    rintro hfalls
    obtain ⟨x, hx, hnumber, m, hm⟩ := (s.noticeFalls_iff number).1 hfalls
    exact h x hx hnumber m hm
  case all =>
    refine ⟨s.ticked, by rw [exec_tick, State.tickTaking_of_none hnone],
      fun x hx m hm => exec_noticeDue_falls hx hm hnone, s.notice_ticked_keeps.2, ?sends, ?waits⟩
    case sends =>
      intro before e behind hown hes hdue hfree hfirst he
      refine State.notice_ticked_due hown hes hdue hfree (fun x hx => ?_) he
      rw [← Bool.not_eq_true, NoticeUnit.mayResend_ageAndGiveUp_iff]
      exact fun hmay => hfirst x hx hmay.1 hmay.2
    case waits =>
      intro h
      rw [State.notice_ticked_of_none, NoticeUnit.ageAndGiveUp_eq]
      · exact ⟨rfl, rfl⟩
      · refine h.imp_right fun ⟨⟨x, hx, hdue⟩, hfree⟩ => NoticeUnit.choose_of_offer (fun y hy => ?_) fun ho => ?_
        · rw [← Bool.not_eq_true, NoticeUnit.mayResend_ageAndGiveUp_iff]
          rw [NoticeUnit.ageAndGiveUp_eq] at hy
          exact fun hmay => hfree y hy hmay.1 hmay.2
        · rw [NoticeUnit.ageAndGiveUp_eq] at ho
          exact hfree x hx hdue (.inl ho)
  case one =>
    intro others blocked
    have hmem : e ∈ s.notice.entries := by rw [hes]; simp
    have hlater := NoticeEntry.later_of_falling he hi
    have hrunning : ∀ x ∈ others, x.isDue = false := by
      intro x hx
      obtain ⟨y, hy, rfl⟩ := List.mem_map.1 hx
      exact NoticeEntry.isDue_later_of_running (hothers y hy).2
    have hnumber : ∀ x ∈ others, x.number ≠ e.number := by
      intro x hx
      obtain ⟨y, hy, rfl⟩ := List.mem_map.1 hx
      rw [NoticeEntry.number_later]
      exact (hothers y hy).1
    refine ⟨s.ticked, exec_noticeDue_falls hmem (hi ▸ he) hnone, by rw [exec_tick, State.tickTaking_of_none hnone],
      fun hsends => ?givenUp, fun hsends hfree => ?again, fun hsends hblocked => ?stays⟩
    case givenUp =>
      obtain ⟨hleaving, hstaying⟩ := NoticeUnit.staying_of_given_up hes he hi hothers hsends
      obtain ⟨hnumbers, hlost⟩ := s.notice_ticked_keeps
      have hoffer : s.notice.offerStaying = s.notice.offer.filter fun o => o.number != e.number := by
        rw [NoticeUnit.offerStaying, hleaving]
        simp only [List.all_cons, List.all_nil, Bool.and_true, NoticeEntry.number_later, bne_comm]
      refine ⟨by rw [hlost, hleaving]; rfl, fun x hx hsame => ?_, fun hblocked => ?_⟩
      · have hx' := List.mem_map_of_mem (f := NoticeEntry.number) hx
        rw [hnumbers, hstaying] at hx'
        obtain ⟨y, hy, hyx⟩ := List.mem_map.1 hx'
        exact hnumber y hy (hyx.trans hsame)
      · rw [State.notice_ticked_of_none, NoticeUnit.ageAndGiveUp_eq, ← hoffer]
        · exact ⟨hstaying, rfl⟩
        · refine hblocked.imp_right fun ⟨o, ho, hne⟩ => NoticeUnit.choose_of_offer (fun x hx => ?_) ?_
          · rw [NoticeUnit.ageAndGiveUp_eq] at hx
            change x ∈ s.notice.staying at hx
            rw [hstaying] at hx
            exact NoticeUnit.mayResend_ageAndGiveUp_of_not_due (hrunning x hx)
          · rw [NoticeUnit.ageAndGiveUp_eq]
            simp [hoffer, ho, hne]
    case again =>
      obtain ⟨hleaving, hstaying⟩ := NoticeUnit.staying_of_sent_again hes hothers hsends
      have hoffer := NoticeUnit.offerStaying_of_none_leaving hleaving
      obtain ⟨hown, hown'⟩ := not_or.1 hfree
      have hfirst : ∀ x ∈ before.map NoticeEntry.later, x ∈ others := fun x hx =>
        List.map_subset _ (List.subset_append_left before behind) hx
      have hmay : s.notice.offerStaying = none ∨
          ∃ o, s.notice.offerStaying = some o ∧ o.number = e.later.number := by
        rw [hoffer, NoticeEntry.number_later]
        cases ho : s.notice.offer with
        | none => exact .inl rfl
        | some o => exact .inr ⟨o, rfl, by_contra fun hne => hown' ⟨o, ho, hne⟩⟩
      obtain ⟨hentries, hsent⟩ := State.notice_ticked_due hown hstaying (by rw [hlater]; simp [NoticeEntry.isDue]) hmay
        (fun x hx => NoticeUnit.mayResend_ageAndGiveUp_of_not_due (hrunning x (hfirst x hx)))
        (fun hx => hnumber _ (hfirst _ hx) e.number_later)
      refine ⟨?_, ?_, ?_⟩
      · rw [hentries, hlater]
      · rw [s.notice_ticked_keeps.2, hleaving]
        exact BitVec.add_zero _
      · rw [hsent, hlater]
        rfl
    case stays =>
      obtain ⟨hleaving, hstaying⟩ := NoticeUnit.staying_of_sent_again hes hothers hsends
      have hoffer := NoticeUnit.offerStaying_of_none_leaving hleaving
      rw [State.notice_ticked_of_none, NoticeUnit.ageAndGiveUp_eq, hleaving, hstaying, hoffer, hlater]
      · simp only [List.length_nil, BitVec.add_zero]
      · refine hblocked.imp_right fun ⟨o, ho, hne⟩ => NoticeUnit.choose_of_offer (fun x hx => ?_) ?_
        · rw [NoticeUnit.ageAndGiveUp_eq, hstaying, List.mem_append, List.mem_cons] at hx
          have hrun : x = e.later ∨ x ∈ others := by
            rw [show others = before.map NoticeEntry.later ++ behind.map NoticeEntry.later from List.map_append,
              List.mem_append]
            tauto
          obtain rfl | hx := hrun
          · rw [← Bool.not_eq_true, NoticeUnit.mayResend_ageAndGiveUp_iff, hoffer, ho, NoticeEntry.number_later]
            rintro ⟨-, h | ⟨o', h, hsame⟩⟩
            · exact Option.some_ne_none o h
            · exact hne (Option.some.inj h ▸ hsame)
          · exact NoticeUnit.mayResend_ageAndGiveUp_of_not_due (hrunning x hx)
        · rw [NoticeUnit.ageAndGiveUp_eq, hoffer, ho]
          exact Option.some_ne_none o

/-- Settles O43: with no due entry left the choice is the first eligible PENDING one, or none. -/
theorem pendingNoticeIsSentWhenEligible : Obligations.PendingNoticeIsSentWhenEligible := by
  unfold Obligations.PendingNoticeIsSentWhenEligible
  intro s hnone hdue kept offer lost sent waits
  have hentries : s.notice.ageAndGiveUp.entries = kept := by rw [NoticeUnit.ageAndGiveUp_eq]
  have hoffer : s.notice.ageAndGiveUp.offer = offer := by rw [NoticeUnit.ageAndGiveUp_eq]
  have hsent : s.notice.ageAndGiveUp.entries.filter NoticeEntry.isSent = sent := by
    rw [hentries]
    refine List.filter_congr fun x _ => ?_
    rw [Bool.eq_iff_iff, NoticeEntry.isSent_iff, decide_eq_true_iff]
  have hchoose := NoticeUnit.choose_pending (n := s.notice.ageAndGiveUp) fun x hx =>
    NoticeUnit.mayResend_ageAndGiveUp_of_not_due (hdue x (by rwa [hentries] at hx))
  rw [hoffer, hsent] at hchoose
  have heligible (x : NoticeEntry) :
      s.notice.ageAndGiveUp.eligible x = true ↔ x.condition = .pending ∧ ¬ waits x := by
    rw [NoticeUnit.eligible_iff, hentries]
  refine ⟨s.ticked, by rw [exec_tick, State.tickTaking_of_none hnone], ?sends, fun h => ?waits⟩
  case sends =>
    intro before e behind hown ho hfew hes hpending hfree hfirst he
    have hfound : s.notice.ageAndGiveUp.entries.find? s.notice.ageAndGiveUp.eligible = some e := by
      rw [hentries, hes]
      refine find?_at _ _ _ _ (fun x hx => ?_) ((heligible e).2 ⟨hpending, hfree⟩)
      rw [← Bool.not_eq_true, heligible]
      exact fun hx' => hx'.2 (hfirst x hx hx'.1)
    rw [if_pos ⟨ho, hfew⟩, hfound] at hchoose
    rw [State.notice_ticked_of_some hown hchoose hes he, NoticeUnit.ageAndGiveUp_eq]
    rfl
  case waits =>
    rw [State.notice_ticked_of_none, NoticeUnit.ageAndGiveUp_eq]
    refine h.imp_right fun h => ?_
    rw [hchoose]
    split
    · next hc =>
      obtain ho | hmany | hwait := h
      · exact absurd hc.1 ho
      · exact absurd hc.2 (Nat.not_lt.2 hmany)
      · refine List.find?_eq_none.2 fun x hx hx' => ?_
        obtain ⟨hpending, hfree⟩ := (heligible x).1 hx'
        exact hfree (hwait x (hentries ▸ hx) hpending)
    · rfl

end Sys2Proof.Machine
end

section
/-! The aligned join (R39, R89): how a re-base shares out the blocks of a window, and what it counts. -/

namespace Sys2Proof.Machine

/-! ### Counting several times -/

section
variable (c : Counter) (n : Nat) (fl : Flow)

/-- What one count leaves of a flow, any number of counts leaves. -/
theorem Flow.iterate_bump_keeps {α : Type} (part : Flow → α) (h : ∀ fl : Flow, part (fl.bump c) = part fl) :
    part ((Flow.bump · c)^[n] fl) = part fl := by
  induction n with
  | zero => rfl
  | succ n ih => rw [Function.iterate_succ_apply', h, ih]

theorem Flow.counter_iterate_bump_ne {d : Counter} (h : c ≠ d) :
    ((Flow.bump · c)^[n] fl).counter d = fl.counter d :=
  Flow.iterate_bump_keeps c n fl (Flow.counter · d) fun fl => Flow.counter_bump_ne fl h

theorem Flow.counter_iterate_bump : ((Flow.bump · c)^[n] fl).counter c = fl.counter c + BitVec.ofNat 16 n := by
  induction n with
  | zero => exact (BitVec.add_zero _).symm
  | succ n ih =>
    rw [Function.iterate_succ_apply', Flow.counter_bump, if_pos rfl, ih, BitVec.add_assoc, BitVec.ofNat_add]
    rfl

end

/-- Counting raises notices by the counters alone. -/
theorem State.notice_countTimes_congr {s t : State} {f : FlowIx} (c : Counter) (n : Nat) (hnotice : t.notice = s.notice)
    (hcounters : (t.flow f).counters = (s.flow f).counters) :
    (t.countTimes f c n).notice = (s.countTimes f c n).notice ∧
      ((t.countTimes f c n).flow f).counters = ((s.countTimes f c n).flow f).counters := by
  induction n generalizing s t with
  | zero => exact ⟨hnotice, hcounters⟩
  | succ n ih =>
    have hcount (d : Counter) : (t.flow f).counter d = (s.flow f).counter d := by
      rw [Flow.counter, Flow.counter, hcounters]
    rw [State.countTimes, State.countTimes, State.count_eq, State.count_eq]
    refine ih ?_ ?_
    · rw [State.notice_counted, State.notice_counted, hnotice, State.wrapRaises_of (hcount c)]
    · rw [State.flow_counted_self, State.flow_counted_self, Flow.bump, Flow.bump, hcounters, hcount c]

theorem State.pool_countTimes (s : State) (f : FlowIx) (c : Counter) (n : Nat) :
    (s.countTimes f c n).pool = s.pool := by
  rw [State.countTimes_eq]; rfl

/-! ### How a re-base shares out the blocks of a window (R39) -/

section
variable (w : Window) (depth : Nat) (h : Half)

theorem Window.leftBehind_eq (e : Int) :
    w.leftBehind e = (w.heldSet.filter fun k : Nat => (k : Int) < e).card := by
  rw [Window.leftBehind, ← card_filter_range, Window.heldSet, Finset.filter_filter]
  congr 1
  refine Finset.filter_congr fun k _ => ?_
  rw [Bool.and_eq_true, decide_eq_true_iff, sub_neg]

theorem Window.pushedPast_eq (e : Int) :
    w.pushedPast depth e = (w.heldSet.filter fun k : Nat => (depth : Int) + e ≤ k).card := by
  rw [Window.pushedPast, ← card_filter_range, Window.heldSet, Finset.filter_filter]
  congr 1
  refine Finset.filter_congr fun k _ => ?_
  rw [Bool.and_eq_true, decide_eq_true_iff]
  exact and_congr_right fun _ => by omega

theorem Window.isHeld_joined {k : Nat} :
    ((w.joined depth h).entryAt k).isHeld = true ↔
      k < 32 ∧ k < depth ∧ 0 ≤ (k : Int) + seqOffset h w.head ∧
        (w.entryAt ((k : Int) + seqOffset h w.head).toNat).isHeld = true := by
  by_cases hk : k < 32
  · rw [Window.entryAt_joined w depth h hk]
    split
    · next hin => rw [Entry.isHeld_onlyHeld]; simp [hk, hin]
    · next hout => exact ⟨fun hh => Bool.noConfusion hh, fun hh => absurd ⟨hh.2.1, hh.2.2.1⟩ hout⟩
  · rw [Window.entryAt_of_ge _ (Nat.le_of_not_lt hk)]
    exact ⟨fun hh => Bool.noConfusion hh, fun hh => absurd hh.1 hk⟩

/-- The blocks a re-base keeps are those neither left behind nor pushed past. -/
theorem Window.fill_joined (hdepth : depth ≤ 32) :
    (w.joined depth h).fill =
      (w.heldSet.filter fun k : Nat => ¬ (k : Int) < seqOffset h w.head ∧
      ¬ (depth : Int) + seqOffset h w.head ≤ k).card := by
  rw [Window.fill_eq_card]
  set e := seqOffset h w.head with he
  have hmem {k : Nat} : k ∈ (w.joined depth h).heldSet ↔
      k < 32 ∧ k < depth ∧ 0 ≤ (k : Int) + e ∧ (w.entryAt ((k : Int) + e).toNat).isHeld = true := by
    rw [Window.mem_heldSet, Window.isHeld_joined]
  refine Finset.card_nbij' (fun k : Nat => ((k : Int) + e).toNat) (fun k : Nat => ((k : Int) - e).toNat) ?_ ?_ ?_ ?_
  · intro k hk
    obtain ⟨_, _, _, hheld⟩ := hmem.1 (Finset.mem_coe.1 hk)
    exact Finset.mem_coe.2 (Finset.mem_filter.2 ⟨Window.mem_heldSet.2 hheld, by dsimp only; omega⟩)
  · intro k hk
    obtain ⟨hheld, hin⟩ := Finset.mem_filter.1 (Finset.mem_coe.1 hk)
    dsimp only
    refine Finset.mem_coe.2 (hmem.2 ⟨by omega, by omega, by omega, ?_⟩)
    rw [show (((k : Int) - e).toNat + e).toNat = k by omega]
    exact Window.mem_heldSet.1 hheld
  · intro k hk
    obtain ⟨_, _, _, -⟩ := hmem.1 (Finset.mem_coe.1 hk)
    dsimp only
    omega
  · intro k hk
    obtain ⟨-, hin⟩ := Finset.mem_filter.1 (Finset.mem_coe.1 hk)
    dsimp only
    omega

theorem Window.fill_joined_add (hdepth : depth ≤ 32) (hpos : 0 < depth) :
    (w.joined depth h).fill + w.leftBehind (seqOffset h w.head) + w.pushedPast depth (seqOffset h w.head) = w.fill := by
  rw [Window.fill_joined w depth h hdepth, Window.leftBehind_eq, Window.pushedPast_eq, Window.fill_eq_card]
  set e := seqOffset h w.head
  have hbehind := Finset.card_filter_add_card_filter_not (s := w.heldSet) (fun k : Nat => (k : Int) < e)
  have hpast := Finset.card_filter_add_card_filter_not
    (s := w.heldSet.filter fun k : Nat => ¬ (k : Int) < e) (fun k : Nat => (depth : Int) + e ≤ k)
  rw [Finset.filter_filter, Finset.filter_filter] at hpast
  have hpast' : (w.heldSet.filter fun k : Nat => ¬ (k : Int) < e ∧ (depth : Int) + e ≤ k) =
      w.heldSet.filter fun k : Nat => (depth : Int) + e ≤ k :=
    Finset.filter_congr fun k _ => and_iff_right_of_imp fun _ => by omega
  rw [hpast'] at hpast
  omega

end

/-! ### The two parts of a join -/

section
variable (fl : Flow) (h : Half)

theorem Flow.rebasedTo_keeps {α : Type} (part : Flow → α) (hpart : ∀ (fl : Flow) c, part (fl.bump c) = part fl) :
    part (fl.rebasedTo h) =
      part { fl with
        window := fl.window.joined fl.record.depth h
        held := fl.held - (fl.window.leftBehind (seqOffset h fl.window.head) +
          fl.window.pushedPast fl.record.depth (seqOffset h fl.window.head)) } := by
  unfold Flow.rebasedTo
  rw [Flow.iterate_bump_keeps _ _ _ part fun fl => hpart fl _, Flow.iterate_bump_keeps _ _ _ part fun fl => hpart fl _]

@[simp] theorem Flow.record_rebasedTo : (fl.rebasedTo h).record = fl.record :=
  fl.rebasedTo_keeps h Flow.record fun _ _ => rfl

@[simp] theorem Flow.window_rebasedTo : (fl.rebasedTo h).window = fl.window.joined fl.record.depth h :=
  fl.rebasedTo_keeps h Flow.window fun _ _ => rfl

@[simp] theorem Flow.rt_rebasedTo : (fl.rebasedTo h).rt = fl.rt := fl.rebasedTo_keeps h Flow.rt fun _ _ => rfl

theorem Flow.held_rebasedTo : (fl.rebasedTo h).held =
    fl.held - (fl.window.leftBehind (seqOffset h fl.window.head) +
      fl.window.pushedPast fl.record.depth (seqOffset h fl.window.head)) :=
  fl.rebasedTo_keeps h Flow.held fun _ _ => rfl

theorem Flow.late_rebasedTo : (fl.rebasedTo h).counter .late =
    fl.counter .late + BitVec.ofNat 16 (fl.window.leftBehind (seqOffset h fl.window.head)) := by
  rw [Flow.rebasedTo, Flow.counter_iterate_bump_ne _ _ _ (by decide), Flow.counter_iterate_bump]
  rfl

theorem Flow.beyond_rebasedTo : (fl.rebasedTo h).counter .beyond =
    fl.counter .beyond +
      BitVec.ofNat 16 (fl.window.pushedPast fl.record.depth (seqOffset h fl.window.head)) := by
  rw [Flow.rebasedTo, Flow.counter_iterate_bump, Flow.counter_iterate_bump_ne _ _ _ (by decide)]
  rfl

theorem Flow.counter_rebasedTo_ne {c : Counter} (hlate : .late ≠ c) (hbeyond : .beyond ≠ c) :
    (fl.rebasedTo h).counter c = fl.counter c := by
  rw [Flow.rebasedTo, Flow.counter_iterate_bump_ne _ _ _ hbeyond, Flow.counter_iterate_bump_ne _ _ _ hlate]
  rfl

variable {fl}

theorem Flow.begun_held {b : Block} (hb : fl.window.entryAt 0 = .held b) :
    fl.begun = { fl with rt := fl.rt.toPlaying b.length } := by rw [Flow.begun, hb]

/-- Where the head is not HELD, nothing is released: the head is marked SPENT and concealed. -/
theorem Flow.begun_not_held (hb : (fl.window.entryAt 0).isHeld = false) :
    fl.begun =
      { fl.bump .concealed with window := fl.window.withEntry 0 .spent, rt := fl.rt.toHolding fl.record 1 } := by
  have hhead : fl.window.headHeld = 0 := by rw [Window.headHeld, hb]; rfl
  unfold Flow.begun
  split
  · next b hheld => rw [hheld] at hb; exact Bool.noConfusion hb
  · rw [hhead]
    rfl

theorem Window.head_withEntry (w : Window) (k : Nat) (e : Entry) : (w.withEntry k e).head = w.head := by
  rw [Window.withEntry]

theorem Flow.counter_congr {x y : Flow} (h : x.counters = y.counters) (c : Counter) : x.counter c = y.counter c := by
  rw [Flow.counter, Flow.counter, h]

/-- A beginning at the head keeps the head, the buffers and every entry behind the head. -/
theorem Flow.begun_frame (fl : Flow) :
    fl.begun.window.head = fl.window.head ∧ fl.begun.held = fl.held ∧ fl.begun.record = fl.record ∧
      (∀ k, k ≠ 0 → fl.begun.window.entryAt k = fl.window.entryAt k) ∧
      ∀ c, c ≠ .concealed → fl.begun.counter c = fl.counter c := by
  cases hh : (fl.window.entryAt 0).isHeld with
  | true =>
    obtain ⟨b, hb⟩ := (Entry.isHeld_iff _).1 hh
    rw [Flow.begun_held hb]
    exact ⟨rfl, rfl, rfl, fun _ _ => rfl, fun c _ => Flow.counter_congr rfl c⟩
  | false =>
    rw [Flow.begun_not_held hh]
    refine ⟨Window.head_withEntry _ _ _, by rw [Flow.bump], by rw [Flow.bump], fun k hk => ?_, fun c hc => ?_⟩
    · rw [Window.entryAt_withEntry, if_neg fun h => hk h.2]
    · exact (Flow.counter_congr (y := fl.bump .concealed) (by dsimp only) c).trans (Flow.counter_bump_ne fl hc.symm)

end

section
variable {s : State} {f : FlowIx}

theorem State.beginAtHead_held {b : Block} (hb : (s.flow f).window.entryAt 0 = .held b) :
    s.beginAtHead f = (s.setRt f ((s.flow f).rt.toPlaying b.length)).withNotice
      (s.notice.take (flowStateRaise f .playing)) := by
  rw [State.beginAtHead, hb]
  rfl

theorem State.beginAtHead_not_held (hb : ((s.flow f).window.entryAt 0).isHeld = false) :
    s.beginAtHead f = (s.setFlow f (s.flow f).begun).withNotice
      (s.notice.takeAll (s.wrapRaises f .concealed ++ [flowStateRaise f .holding])) := by
  have hhead : (s.flow f).window.headHeld = 0 := by rw [Window.headHeld, hb]; rfl
  have hbegin : s.beginAtHead f = (s.concealNext f 1).raise (flowStateRaise f .holding) := by
    unfold State.beginAtHead
    split
    · next b hheld => rw [hheld] at hb; exact Bool.noConfusion hb
    · rfl
  rw [hbegin, State.concealNext_eq, Flow.begun_not_held hb, hhead, NoticeUnit.takeAll_append]
  rfl

theorem State.flow_rebaseTo (s : State) (h : Half) (f : FlowIx) : (s.rebaseTo h f).flow f = (s.flow f).rebasedTo h := by
  rw [State.rebaseTo_eq]; exact State.flow_setFlow_self s f _

theorem State.pool_rebaseTo (s : State) (h : Half) (f : FlowIx) :
    (s.rebaseTo h f).pool = s.pool.released
      ((s.flow f).window.leftBehind (seqOffset h (s.flow f).window.head) +
        (s.flow f).window.pushedPast (s.flow f).record.depth (seqOffset h (s.flow f).window.head)) := by
  rw [State.rebaseTo, State.pool_countTimes, State.pool_countTimes, State.giveBack_eq]; rfl

theorem State.notice_rebaseTo (s : State) (h : Half) (f : FlowIx) :
    (s.rebaseTo h f).notice =
      ((s.countTimes f .late ((s.flow f).window.leftBehind (seqOffset h (s.flow f).window.head))).countTimes f .beyond
        ((s.flow f).window.pushedPast (s.flow f).record.depth (seqOffset h (s.flow f).window.head))).notice := by
  obtain ⟨hnotice, hcounters⟩ := State.notice_countTimes_congr (s := s) (t := (s.setWindow f ((s.flow f).window.joined
    (s.flow f).record.depth h)).giveBack f
      ((s.flow f).window.leftBehind (seqOffset h (s.flow f).window.head) +
        (s.flow f).window.pushedPast (s.flow f).record.depth (seqOffset h (s.flow f).window.head))) (f := f) .late
    ((s.flow f).window.leftBehind (seqOffset h (s.flow f).window.head)) (by rw [State.giveBack_eq]; rfl)
    (by rw [State.giveBack_eq, State.setWindow_eq]; simp)
  exact (State.notice_countTimes_congr .beyond _ hnotice hcounters).1

theorem State.choices_join (s : State) (h : Half) (f : FlowIx) : (s.join h f).choices = s.choices := by
  rw [State.join_eq]; rfl

/-- A join gives back what its re-base leaves behind or pushes past, and no buffer more. -/
theorem State.pool_join (s : State) (h : Half) (f : FlowIx) : (s.join h f).pool = (s.rebaseTo h f).pool := by
  rw [State.join_eq_beginAtHead]
  cases hh : (((s.rebaseTo h f).flow f).window.entryAt 0).isHeld with
  | true =>
    obtain ⟨b, hb⟩ := (Entry.isHeld_iff _).1 hh
    rw [State.beginAtHead_held hb]; rfl
  | false => rw [State.beginAtHead_not_held hh]; rfl

end

/-- Settles O29, from the sharing out of the blocks by the re-base and the two ways a flow begins at its head. -/
theorem alignedJoinRebasesWindow : Obligations.AlignedJoinRebasesWindow := by
  unfold Obligations.AlignedJoinRebasesWindow
  intro u f h hlawful hready fl e behind past t n
  obtain ⟨⟨hdepth2, hdepth32, -⟩, -, hheld, -, -⟩ : fl.Lawful := hlawful
  have hbehind : fl.window.leftBehind e = behind := by
    rw [Window.leftBehind]
    simp only [sub_neg]
    rfl
  have hpast : fl.window.pushedPast fl.record.depth e = past := by
    rw [Window.pushedPast]
    have hle (k : Nat) : (fl.record.depth : Int) - 1 < (k : Int) - e ↔ (fl.record.depth : Int) + e ≤ k := by omega
    simp only [hle]
    rfl
  have hflow : t.flow f = (fl.rebasedTo h).begun := by rw [State.flow_join, if_pos rfl]
  have hrebased := u.flow_rebaseTo h f
  have ht : t = (u.rebaseTo h f).beginAtHead f := State.join_eq_beginAtHead u h f
  have hnotice : (u.rebaseTo h f).notice = n := by rw [State.notice_rebaseTo, hbehind, hpast]
  obtain ⟨hhead, hkept, -, hentries, hcounters⟩ := (fl.rebasedTo h).begun_frame
  have hzero : (fl.rebasedTo h).window.entryAt 0 = if 0 ≤ e then (fl.window.entryAt e.toNat).onlyHeld else .empty := by
    rw [Flow.window_rebasedTo, Window.entryAt_joined _ _ _ (by omega)]
    simp only [Nat.cast_zero, zero_add, show 0 < fl.record.depth by omega, true_and]
    rfl
  have hconcealed : (fl.rebasedTo h).counter .concealed = fl.counter .concealed :=
    Flow.counter_rebasedTo_ne fl h (by decide) (by decide)
  refine ⟨?head, ?held, ?pool, fun k hk hkd b => ?entries, fun b he hb => ?playing, fun hnot => ?holding, ?late,
    ?beyond,
    fun x hx => ?others, State.groups_join u h f, ?_⟩
  case head => rw [hflow, hhead, Flow.window_rebasedTo]; rfl
  case held =>
    have hfill := fl.window.fill_joined_add fl.record.depth h hdepth32 (by omega)
    rw [hbehind, hpast, ← hheld] at hfill
    rw [hflow, hkept, Flow.held_rebasedTo, hbehind, hpast]
    omega
  case pool => rw [State.pool_join, State.pool_rebaseTo, hbehind, hpast]
  case entries =>
    rw [hflow, hentries k (by omega), Flow.window_rebasedTo, Window.entryAt_joined _ _ _ (by omega)]
    split
    · next hin => rw [Entry.onlyHeld_eq_held_iff]; exact (and_iff_right hin.2).symm
    · next hout => exact ⟨fun hh => Entry.noConfusion hh, fun hh => absurd ⟨hkd, hh.1⟩ hout⟩
  case playing =>
    rw [if_pos he, hb] at hzero
    refine ⟨?_, ?_, ?_, ?_⟩
    · rw [hflow, Flow.begun_held hzero]; exact hzero
    · rw [hflow, Flow.begun_held hzero, Flow.rt_rebasedTo]; rfl
    · rw [hflow, Flow.begun_held hzero, ← hconcealed]
      exact Flow.counter_congr rfl _
    · rw [ht, State.beginAtHead_held (by rw [hrebased]; exact hzero),
        State.notice_withNotice, hnotice]
      rfl
  case holding =>
    have hnotHeld : ((fl.rebasedTo h).window.entryAt 0).isHeld = false := by
      rw [hzero]
      split
      · next he => rw [Entry.isHeld_onlyHeld]; exact hnot.resolve_left (by omega)
      · rfl
    refine ⟨?_, ?_, ?_, ?_⟩
    · rw [hflow, Flow.begun_not_held hnotHeld, Window.entryAt_withEntry, if_pos (by omega)]
    · rw [hflow, Flow.begun_not_held hnotHeld, Flow.rt_rebasedTo, Flow.record_rebasedTo]; rfl
    · rw [hflow, Flow.begun_not_held hnotHeld, ← hconcealed]
      exact (Flow.counter_congr (y := (fl.rebasedTo h).bump .concealed) (by dsimp only) _).trans
        (((fl.rebasedTo h).counter_bump .concealed .concealed).trans (if_pos rfl))
    · rw [ht, State.beginAtHead_not_held (by rw [hrebased]; exact hnotHeld),
        State.notice_withNotice, hnotice, State.wrapRaises_of (s := u) (by rw [hrebased]; exact hconcealed)]
      rfl
  case late => rw [hflow, hcounters _ (by decide), Flow.late_rebasedTo, hbehind]
  case beyond => rw [hflow, hcounters _ (by decide), Flow.beyond_rebasedTo, hpast]
  case others => rw [State.flow_join, if_neg hx]
  · exact ⟨State.lane_join u h f, State.ring_join u h f, State.mgmt_join u h f, State.choices_join u h f,
      State.pending_join u h f⟩

end Sys2Proof.Machine
end

section
/-! The common checks of an execution (R132, R135), and what the three scopes of UNIT_RESET leave (R146, R147). -/

namespace Sys2Proof.Machine

open Host (Outcome)

/-! ### The executions, as one family -/

/-- The command that the execution of an instruction acts on: of its code, and, where it is a UNIT_RESET row, of its scope
or refused whatever its scope (log entry 8). -/
def actsOn (i : Instr) (code : Byte) (c : QueuedCommand) : Prop :=
  c.code = code ∧ ∀ k, scopeOf i = some k → byteAt c.params 0 = k ∨ c.length ≠ 1 ∨ 2 < (byteAt c.params 0).toNat

theorem resetOfScope_iff (k : Byte) (c : QueuedCommand) :
    resetOfScope k c = true ↔
      c.code = 0x0E ∧ (byteAt c.params 0 = k ∨ c.length ≠ 1 ∨ 2 < (byteAt c.params 0).toNat) := by
  simp only [resetOfScope, QueuedCommand.param, Bool.and_eq_true, Bool.or_eq_true, beq_iff_eq, Bool.not_eq_true',
    beq_eq_false_iff_ne, or_assoc]
  exact and_congr_right fun _ => or_congr_right (or_congr_right decide_eq_true_iff)

/-- Each execution that has a code of its own is the common checks and then an effect of its own. -/
theorem exec_execution {i : Instr} {code : Byte} {length : Nat} {needsClaim : Bool}
    (h : executionOf i = some (code, length, needsClaim)) :
    ∃ (isIt : QueuedCommand → Bool) (own : QueuedCommand → State → State),
      (∀ s, exec i s = .next (s.execute isIt length needsClaim own)) ∧ ∀ c, isIt c = true ↔ actsOn i code c := by
  have hcode (i : Instr) (code : Byte) (hscope : scopeOf i = none) (c : QueuedCommand) :
      hasCode code c = true ↔ actsOn i code c := by
    simp [hasCode, actsOn, hscope]
  have hreset (i : Instr) (k : Byte) (hscope : scopeOf i = some k) (c : QueuedCommand) :
      resetOfScope k c = true ↔ actsOn i 0x0E c := by
    simp [resetOfScope_iff, actsOn, hscope]
  cases i <;> cases h
  case unitResetCounters => exact ⟨_, _, fun _ => rfl, hreset _ _ rfl⟩
  case unitResetPlayout => exact ⟨_, _, fun _ => rfl, hreset _ _ rfl⟩
  case unitResetConfig => exact ⟨_, _, fun _ => rfl, hreset _ _ rfl⟩
  all_goals exact ⟨_, _, fun _ => rfl, hcode _ _ rfl⟩

theorem exec_unknownCommand (s : State) : exec .unknownCommand s = execUnknownCommand s := rfl

/-- Settles O46: the common checks are those of `State.execute`, whatever the effect behind them. -/
theorem commonChecksComeFirst : Obligations.CommonChecksComeFirst := by
  unfold Obligations.CommonChecksComeFirst
  refine ⟨⟨fun s c hturn hunknown => ?unknown, fun i code length needsClaim hrow s c hturn hcode => ?checks⟩,
    fun s hknown => ?known, fun i code length needsClaim hrow s hother => ?other⟩
  case unknown =>
    obtain ⟨hd, hq⟩ := hturn
    obtain ⟨cs, hqueue⟩ := List.head?_eq_some_iff.1 hq
    rw [exec_unknownCommand, execUnknownCommand, hd, hqueue]
    exact congrArg Outcome.next (if_pos (decide_eq_true hunknown))
  case known =>
    rw [exec_unknownCommand, execUnknownCommand]
    cases hd : s.mgmt.deferred with
    | some f => rfl
    | none =>
      cases hqueue : s.mgmt.queue with
      | nil => rfl
      | cons c cs =>
        have hlimits := hknown c ⟨hd, by rw [hqueue]; rfl⟩
        exact congrArg Outcome.next (if_neg fun hunknown => by
          have := of_decide_eq_true hunknown
          omega)
  case checks =>
    intro scopeFits
    obtain ⟨isIt, own, hexec, hacts⟩ := exec_execution hrow
    have hrun (hacting : actsOn i code c) := State.execute_eq s isIt length needsClaim own hturn ((hacts c).2 hacting)
    have hfits (hscope : scopeFits) : actsOn i code c :=
      ⟨hcode, fun k hk => (hscope k hk).imp_right fun h => .inr (by omega)⟩
    have hnotHolder (hl : c.length = length) (hscope : scopeFits) (hclaim : needsClaim = true)
        (hh : s.mgmt.claim.holder ≠ some c.origin) :
        exec i s = .next (s.answered c .notHolder (holderByte s.mgmt.claim.holder) []) := by
      rw [hexec, hrun (hfits hscope), if_neg (not_not.2 hl), if_pos ⟨hclaim, hh⟩, State.reloaded_of_not_holder hh]
    refine ⟨fun hl => ?length, fun hl hscope hclaim hh => ?unclaimed, fun a hl hscope hclaim hh hne => ?claimed⟩
    case length =>
      have hlength (k : Byte) (hk : scopeOf i = some k) : length = 1 := by
        cases i <;> cases hk <;> cases hrow <;> rfl
      rw [hexec, hrun ⟨hcode, fun k hk => .inr (.inl (hlength k hk ▸ hl))⟩, if_pos hl]
    case unclaimed =>
      rw [hnotHolder hl hscope hclaim (by rw [hh]; exact nofun), hh]
      rfl
    case claimed =>
      rw [hnotHolder hl hscope hclaim (by rw [hh]; exact fun h => hne (Option.some.inj h)), hh]
      rfl
  case other =>
    obtain ⟨isIt, own, hexec, hacts⟩ := exec_execution hrow
    rw [hexec, State.execute_other s isIt length needsClaim own]
    intro c hturn
    rw [← Bool.not_eq_true, hacts c]
    rintro ⟨hcode, hscope⟩
    obtain hne | ⟨k, hk, hl, hother, hlow⟩ := hother c hturn
    · exact hne hcode
    · obtain h | h | h := hscope k hk
      · exact hother h
      · exact h hl
      · omega

/-! ### UNIT_RESET (R146) -/

section
variable {s : State} {c : QueuedCommand} (h : s.inTurn c) (hc : c.code = 0x0E) (hl : c.length = 1)
  (hh : s.mgmt.claim.holder = some c.origin)
include h hc hl hh

theorem State.execute_unitReset (effect : State → State) {k : Byte}
    (hk : byteAt c.params 0 = k ∨ 2 < (byteAt c.params 0).toNat) :
    s.execute (resetOfScope k) 1 true (fun c s => s.unitReset effect c) = (s.reloaded c).unitReset effect c := by
  have hscope : resetOfScope k c = true := (resetOfScope_iff k c).2 ⟨hc, hk.imp_right .inr⟩
  rw [State.execute_eq s _ _ _ _ h hscope, if_neg (not_not.2 hl), if_neg fun hno => hno.2 hh]

theorem State.execute_unitReset_badScope (effect : State → State) {k : Byte} (hk : 3 ≤ (byteAt c.params 0).toNat) :
    s.execute (resetOfScope k) 1 true (fun c s => s.unitReset effect c) =
      (s.reloaded c).answered c .invalidField 1 [] := by
  rw [State.execute_unitReset h hc hl hh effect (.inr hk)]
  exact if_pos hk

theorem State.execute_unitReset_scope (effect : State → State) {k : Byte} (hk : byteAt c.params 0 = k)
    (hlow : k.toNat ≤ 2) :
    s.execute (resetOfScope k) 1 true (fun c s => s.unitReset effect c) =
      (effect (s.reloaded c)).answered c .done 0 [] := by
  rw [State.execute_unitReset h hc hl hh effect (.inl hk)]
  exact if_neg (Nat.not_lt.2 (by rw [QueuedCommand.param, hk]; exact hlow))

end

/-- What scope PLAYOUT leaves of a flow: its window flushed, and IDLE where it was enabled (R58). -/
def Flow.idled (fl : Flow) : Flow := fl.emptied (if fl.rt.state.enabled then .cleared .idle else fl.rt)

theorem State.idleFlow_eq (s : State) (f : FlowIx) :
    s.idleFlow f = (s.setFlow f (s.flow f).idled).withPool (s.pool.released (s.flow f).held) := by
  have hdef : s.idleFlow f =
      if (s.flow f).rt.state.enabled then (s.flush f).setRt f (.cleared .idle) else s.flush f := rfl
  rw [hdef, Flow.idled, State.flush_eq]
  split
  · rw [State.setRt_eq]
    simp [Flow.emptied]
  · rfl

theorem State.flow_idleFlow (s : State) (f x : FlowIx) :
    (s.idleFlow f).flow x = if x = f then (s.flow f).idled else s.flow x := by
  rw [State.idleFlow_eq, State.flow_withPool, State.flow_setFlow]

section
variable {op : State → FlowIx → State}

/-- Operations that change flows and the pool alone change those alone one after another. -/
theorem State.foldl_flows_pool
    (hop : ∀ s f, op s f = { s with flows := (op s f).flows, pool := (op s f).pool }) (l : List FlowIx) (s : State) :
    l.foldl op s = { s with flows := (l.foldl op s).flows, pool := (l.foldl op s).pool } := by
  induction l generalizing s with
  | nil => rfl
  | cons f l ih =>
    rw [List.foldl_cons, ih, hop s f]

/-- Operations that each give back the buffers of their own flow give back the sum. -/
theorem State.pool_foldl_released (hflow : ∀ s f x, x ≠ f → (op s f).flow x = s.flow x)
    (hpool : ∀ s f, (op s f).pool = s.pool.released (s.flow f).held) {l : List FlowIx} (hl : l.Nodup) (s : State) :
    (l.foldl op s).pool = s.pool.released (l.map fun f => (s.flow f).held).sum := by
  induction l generalizing s with
  | nil => rfl
  | cons y ys ih =>
    obtain ⟨hy, hys⟩ := List.nodup_cons.1 hl
    have hheld : (ys.map fun f => ((op s y).flow f).held) = ys.map fun f => (s.flow f).held :=
      List.map_congr_left fun f hf => by rw [hflow s y f fun hfy : f = y => hy (hfy ▸ hf)]
    rw [List.foldl_cons, ih hys, hheld, hpool, Pool.released_released, List.map_cons, List.sum_cons]

end

theorem State.flows_eq_ofFn {s : State} {F : FlowIx → Flow} (h : ∀ f, s.flow f = F f) : s.flows = Vector.ofFn F := by
  refine Vector.ext fun i hi => ?_
  rw [Vector.getElem_ofFn]
  exact h ⟨i, hi⟩

theorem State.foldl_idleFlow_eq (s : State) :
    allFlows.foldl State.idleFlow s =
      { s with flows := Vector.ofFn fun f => (s.flow f).idled, pool := s.pool.released s.heldTotal } := by
  rw [State.foldl_flows_pool (fun s f => by rw [State.idleFlow_eq]; rfl)]
  have hflows := State.flows_eq_ofFn (s := allFlows.foldl State.idleFlow s) (F := fun f => (s.flow f).idled) fun f => by
    rw [State.flow_foldl State.flow_idleFlow nodup_allFlows]
    exact if_pos (List.mem_finRange f)
  have hpool := State.pool_foldl_released (op := State.idleFlow)
    (fun s f x hx => by rw [State.flow_idleFlow, if_neg hx])
    (fun s f => by rw [State.idleFlow_eq]; rfl) nodup_allFlows s
  rw [hflows, hpool]
  rfl

theorem Pool.threshold_released (p : Pool) (n : Nat) : (p.released n).threshold = p.threshold := by
  unfold Pool.released; split <;> rfl

theorem Pool.free_released (p : Pool) (n : Nat) : (p.released n).free = p.free + n := by
  unfold Pool.released
  split
  · next h => rw [h]; rfl
  · rfl

/-- Scope PLAYOUT on a lawful pool frees every buffer (R46, R56). -/
theorem State.resetPlayout_eq {s : State} (h : s.PoolLawful) :
    s.resetPlayout = { s with
      flows := Vector.ofFn fun f => (s.flow f).idled
      pool := { free := 384, threshold := s.pool.threshold, armed := true }
      groups := Vector.ofFn fun g => (s.group g).cleared .forming } := by
  obtain ⟨-, hsum, -⟩ := h
  have hpool : s.pool.released s.heldTotal =
      { free := 384, threshold := s.pool.threshold, armed := (s.pool.released s.heldTotal).armed } := by
    rw [← s.pool.threshold_released s.heldTotal, show 384 = s.pool.free + s.heldTotal from hsum.symm,
      ← Pool.free_released]
  rw [State.resetPlayout, State.foldl_idleFlow_eq, hpool]
  dsimp only [State.withPool, State.group]

/-- UNIT_RESET as the statements have it: the unit, then the answer. -/
theorem State.unitReset_done {s t : State} {c : QueuedCommand} {effect : State → State} {i : Instr} {k : Byte}
    (hexec : exec i s = .next (s.execute (resetOfScope k) 1 true fun c s => s.unitReset effect c)) (h : s.inTurn c)
    (hc : c.code = 0x0E) (hl : c.length = 1) (hh : s.mgmt.claim.holder = some c.origin) (hk : byteAt c.params 0 = k)
    (hlow : k.toNat ≤ 2) (ht : effect (s.reloaded c) = t) : exec i s = .next (t.answered c .done 0 []) := by
  rw [hexec, State.execute_unitReset_scope h hc hl hh effect hk hlow, ht]

theorem State.heldTotal_reloaded (s : State) (c : QueuedCommand) : (s.reloaded c).heldTotal = s.heldTotal := by
  simp only [State.heldTotal, State.flow_reloaded]

theorem State.poolLawful_reloaded {s : State} (h : s.PoolLawful) (c : QueuedCommand) : (s.reloaded c).PoolLawful := by
  obtain ⟨hflows, hsum, hout⟩ := h
  refine ⟨fun f => by rw [State.flow_reloaded]; exact hflows f, ?_, ?_⟩
  · rw [State.pool_reloaded, State.heldTotal_reloaded]; exact hsum
  · rw [State.pool_reloaded, State.outstanding_reloaded]; exact hout

/-- An enabled flow is IDLE after scope PLAYOUT, and a DISABLED one stays as it is (R58). -/
theorem Flow.idled_of_not_draining {fl : Flow} (h : fl.rt.state.isDraining = false) :
    fl.idled = fl.emptied (if fl.rt.state = .disabled then fl.rt else { Runtime.reset with state := .idle }) := by
  rw [Flow.idled]
  cases hs : fl.rt.state with
  | draining m => rw [hs] at h; exact Bool.noConfusion h
  | disabled => rfl
  | idle | priming | ready | playing | holding | cut => rfl

/-- Settles O58: scope COUNTERS sets counters alone; scope PLAYOUT flushes flow by flow, and the law of the pool makes the
sum of what is given back every buffer. -/
theorem resetCountersAndPlayout : Obligations.ResetCountersAndPlayout := by
  unfold Obligations.ResetCountersAndPlayout
  refine ⟨fun s c h hc hl hh => ⟨fun hbad i hi => ?bad, fun hk => ?counters⟩,
    fun s c h hc hl hh hk hpool hdrain => ?playout⟩
  case bad =>
    have hrow : ∃ k effect, exec i s = .next (s.execute (resetOfScope k) 1 true fun c s => s.unitReset effect c) := by
      simp only [List.mem_cons, List.not_mem_nil, or_false] at hi
      obtain rfl | rfl | rfl := hi
      · exact ⟨_, _, rfl⟩
      · exact ⟨_, _, rfl⟩
      · exact ⟨_, _, rfl⟩
    obtain ⟨k, effect, hexec⟩ := hrow
    rw [hexec, State.execute_unitReset_badScope h hc hl hh effect hbad]
  case counters =>
    refine State.unitReset_done (effect := State.resetCounters) rfl h hc hl hh hk (by decide) ?_
    rw [State.resetCounters, State.clearFlowCounters, State.clearUnitCounters]
    simp only [State.flow_reloaded, State.withRing, State.withMgmt, State.withNotice, State.ring_reloaded,
      State.notice_reloaded, Flow.clearCounters]
  case playout =>
    refine State.unitReset_done (effect := State.resetPlayout) rfl h hc hl hh hk (by decide) ?_
    rw [State.resetPlayout_eq (State.poolLawful_reloaded hpool c)]
    simp only [State.flow_reloaded, State.group_reloaded, State.pool_reloaded, Flow.idled_of_not_draining (hdrain _)]
    rfl

/-- What scope CONFIG leaves of a flow (R8, R27): all at its defaults but the head of its window. -/
def Flow.defaulted (fl : Flow) : Flow :=
  { record := .default, held := 0, counters := Vector.replicate 12 0, rt := Runtime.reset
    window := { head := fl.window.head, entries := Vector.replicate 32 .empty } }

theorem State.resetConfig_eq {s : State} (h : s.PoolLawful) :
    s.resetConfig = { s with
      flows := Vector.ofFn fun f => (s.flow f).defaulted
      pool := { free := 384, threshold := 0, armed := true }
      groups := Vector.replicate 8 Group.reset
      lane := { s.lane with
        map := Vector.replicate 64 .silence, lanes := Vector.replicate 4 { enable := false, mute := false } }
      ring := { s.ring with headerErrors := 0, orphans := 0 }
      mgmt := { s.mgmt with
        claim := { holder := none, lease := 0, length := 0 }, cache := [], crcErrors := 0, lost := 0, absorbed := 0 }
      notice := { NoticeUnit.reset with nextNumber := s.notice.nextNumber } } := by
  rw [State.resetConfig, State.resetPlayout_eq h, State.clearUnitCounters]
  dsimp only [State.withPool, State.withRing, State.withMgmt, State.withNotice, State.withLane, State.flow]
  simp only [Vector.getElem_ofFn]
  rfl

/-- Settles O59: scope CONFIG is scope PLAYOUT and then every table at its default. -/
theorem resetConfigRestoresDefaults : Obligations.ResetConfigRestoresDefaults := by
  unfold Obligations.ResetConfigRestoresDefaults
  intro s c h hc hl hh hk hpool
  refine State.unitReset_done (effect := State.resetConfig) rfl h hc hl hh hk (by decide) ?_
  have hmgmt : (s.reloaded c).mgmt = { s.mgmt with claim := (s.reloaded c).mgmt.claim } := by
    rw [State.reloaded]; split <;> rfl
  have hchoices : (s.reloaded c).choices = s.choices := by rw [State.reloaded]; split <;> rfl
  rw [State.resetConfig_eq (State.poolLawful_reloaded hpool c)]
  simp only [State.flow_reloaded, State.lane_reloaded, State.ring_reloaded, State.notice_reloaded,
    State.pending_reloaded, hchoices]
  rw [hmgmt, show s.mgmt.deferred = none from h.1]
  rfl

end Sys2Proof.Machine
end

section
/-! What an event may make of one flow. `Flow.Change` holds of a change that keeps the laws of a flow's window and read
index, its record, and its being matchable; `Flow.KeepsHead` that it keeps the law of its head too. Each operation on a
flow has its lemma here, so that the laws of the unit need not be proved again operation by operation. -/

namespace Sys2Proof.Machine

structure Flow.Change (fl x : Flow) : Prop where
  record : x.record = fl.record
  matchable : x.rt.state.matchable = true → fl.rt.state.matchable = true
  lawful : fl.Lawful → x.Lawful
  reads : fl.ReadLawful → x.ReadLawful

def Flow.KeepsHead (fl x : Flow) : Prop := fl.Lawful → fl.HeadLawful → x.HeadLawful

theorem Flow.Change.refl (fl : Flow) : fl.Change fl := ⟨rfl, id, id, id⟩

theorem Flow.Change.trans {a b c : Flow} (h : a.Change b) (h' : b.Change c) : a.Change c :=
  ⟨h'.record.trans h.record, h.matchable ∘ h'.matchable, h'.lawful ∘ h.lawful, h'.reads ∘ h.reads⟩

theorem Flow.KeepsHead.refl (fl : Flow) : fl.KeepsHead fl := fun _ h => h

/-! ### The parts of the laws -/

/-- A state in which a window is empty (R24). -/
def FlowState.empties (x : FlowState) : Prop := x = .disabled ∨ x = .idle ∨ x = .cut

/-- No entry of the window is SPENT. -/
def Window.NoSpent (w : Window) : Prop := ∀ k, w.entryAt k ≠ .spent

theorem Flow.Lawful.noSpent {fl : Flow} (h : fl.Lawful) (hs : fl.rt.state ≠ .holding)
    (hd : fl.rt.state.isDraining = false) : fl.window.NoSpent := by
  intro k hk
  obtain ⟨-, -, -, -, hspent⟩ := h
  obtain h | h := (hspent k hk).2
  · exact hs h
  · rw [hd] at h
    exact Bool.noConfusion h

/-- An advance leaves no SPENT entry: one stands at the head alone (R23, R36). -/
theorem Flow.Lawful.noSpent_advanced {fl : Flow} (h : fl.Lawful) (depth : Nat) :
    (fl.window.advanced depth).NoSpent := by
  intro k hk
  obtain ⟨-, -, -, -, hspent⟩ := h
  rw [Window.entryAt_advanced] at hk
  split at hk
  · exact absurd (hspent _ hk).1 (Nat.succ_ne_zero k)
  · exact Entry.noConfusion hk

theorem Flow.ReadLawful.head {fl : Flow} (h : fl.ReadLawful) {k : Nat} {b : Block}
    (hb : fl.window.entryAt k = .held b) :
    b.length = 6 ∨ b.length = 12 := h.1 k b hb

theorem Window.contiguous_pos {w : Window} (h : 1 ≤ w.contiguous) : ∃ b, w.entryAt 0 = .held b := by
  rw [Window.contiguous, w.toList_entries] at h
  cases hb : (w.entryAt 0).isHeld with
  | true => exact (Entry.isHeld_iff _).1 hb
  | false =>
    rw [show List.range 32 = 0 :: (List.range' 1 31) from rfl, List.map_cons,
      List.takeWhile_cons_of_neg (by simp [hb])] at h
    exact absurd h (by simp)

/-! ### Changes of the runtime record and the counters -/

section
variable {fl : Flow} {r : Runtime} {cs : Vector Half 12}

/-- A new runtime record after another change: what is left to say is what its state asks of the window and of the read
index. -/
theorem Flow.Change.rt {a : Flow} (h : a.Change fl)
    (hmatchable : r.state.matchable = true → fl.rt.state.matchable = true)
    (hempty : r.state.empties → fl.rt.state.empties)
    (hspent : a.Lawful → fl.window.NoSpent ∨ (r.state = .holding ∨ r.state.isDraining = true))
    (hlast : fl.ReadLawful → ∀ n, r.lastLen = some n → n = 6 ∨ n = 12)
    (hpresents : fl.ReadLawful → r.state.presenting = true →
      ∃ n, r.blockLen = some n ∧ (n = 6 ∨ n = 12) ∧ r.readIndex ≤ n)
    (hrests : fl.ReadLawful → r.state.presenting = false → r.blockLen = none ∧ r.readIndex = 0) :
    a.Change { fl with counters := cs, rt := r } where
  record := h.record
  matchable hm := h.matchable (hmatchable hm)
  lawful ha := by
    obtain ⟨hrecord, hbeyond, hheld, hempties, hspents⟩ := h.lawful ha
    refine ⟨hrecord, hbeyond, hheld, fun hs => hempties (hempty hs), fun k hk => ?_⟩
    exact ⟨(hspents k hk).1, (hspent ha).resolve_left fun hno => hno k hk⟩
  reads ha :=
    have hfl := h.reads ha
    ⟨hfl.1, hlast hfl, hpresents hfl, hrests hfl⟩

theorem Flow.change_rt (hmatchable : r.state.matchable = true → fl.rt.state.matchable = true)
    (hempty : r.state.empties → fl.rt.state.empties)
    (hspent : fl.Lawful → fl.window.NoSpent ∨ (r.state = .holding ∨ r.state.isDraining = true))
    (hlast : fl.ReadLawful → ∀ n, r.lastLen = some n → n = 6 ∨ n = 12)
    (hpresents : fl.ReadLawful → r.state.presenting = true →
      ∃ n, r.blockLen = some n ∧ (n = 6 ∨ n = 12) ∧ r.readIndex ≤ n)
    (hrests : fl.ReadLawful → r.state.presenting = false → r.blockLen = none ∧ r.readIndex = 0) :
    fl.Change { fl with counters := cs, rt := r } :=
  (Flow.Change.refl fl).rt hmatchable hempty hspent hlast hpresents hrests

/-- The state, the read index and the lengths stay: timers, flags, the last frame and the counters are free. -/
theorem Flow.change_timers (hstate : r.state = fl.rt.state) (hread : r.readIndex = fl.rt.readIndex)
    (hblock : r.blockLen = fl.rt.blockLen)
    (hlast : fl.ReadLawful → ∀ n, r.lastLen = some n → n = 6 ∨ n = 12) :
    fl.Change { fl with counters := cs, rt := r } := by
  refine Flow.change_rt ?_ ?_ (fun h => ?_) hlast (fun h => ?_) (fun h => ?_)
  · rw [hstate]; exact id
  · rw [hstate]; exact id
  · obtain ⟨-, -, -, -, hspent⟩ := h
    rw [hstate]
    by_cases hno : fl.window.NoSpent
    · exact .inl hno
    · obtain ⟨k, hk⟩ := not_forall_not.1 hno
      exact .inr (hspent k hk).2
  · rw [hstate, hread, hblock]; exact h.2.2.1
  · rw [hstate, hread, hblock]; exact h.2.2.2

theorem Flow.keepsHead_of_state {x : Flow} (hstate : x.rt.state = fl.rt.state)
    (hentry : x.window.entryAt 0 = fl.window.entryAt 0) :
    fl.KeepsHead x := by
  intro _ h
  unfold Flow.HeadLawful
  rw [hstate, hentry]
  exact h

theorem Flow.change_counters : fl.Change { fl with counters := cs } :=
  Flow.change_timers rfl rfl rfl fun h => h.2.1

theorem Flow.change_bump (fl : Flow) (c : Counter) : fl.Change (fl.bump c) := Flow.change_counters

theorem Flow.keepsHead_bump (fl : Flow) (c : Counter) : fl.KeepsHead (fl.bump c) := Flow.keepsHead_of_state rfl rfl

/-- The last frame of the head block and its length are kept (R65). -/
theorem Flow.change_lastFrame {b : Block} (frame : Option (List Sample)) (hb : fl.window.entryAt 0 = .held b) :
    fl.Change { fl with rt := { fl.rt with lastFrame := frame, lastLen := some b.length } } :=
  Flow.change_timers rfl rfl rfl fun h n hn => by
    rw [← Option.some.inj hn]
    exact h.head hb

/-- A block begins to play (R65, R68, R89, Table 4-4). -/
theorem Flow.Change.playing {a : Flow} (h : a.Change fl) {n : Nat} (hstate : r.state = .playing)
    (hread : r.readIndex = 0) (hblock : r.blockLen = some n)
    (hlast : r.lastLen = fl.rt.lastLen) (hm : fl.rt.state.matchable = true) (hspent : a.Lawful → fl.window.NoSpent)
    (hn : fl.ReadLawful → n = 6 ∨ n = 12) : a.Change { fl with rt := r } := by
  refine h.rt (fun _ => hm) ?_ (fun h => .inl (hspent h)) (fun h => ?_) (fun h _ => ?_) ?_
  · rw [hstate]; rintro (h | h | h) <;> exact FlowState.noConfusion h
  · rw [hlast]; exact h.2.1
  · exact ⟨n, hblock, hn h, by rw [hread]; exact Nat.zero_le n⟩
  · rw [hstate]; exact fun _ h => Bool.noConfusion h

/-- A flow that neither plays nor has an empty window: PRIMING or READY (Table 4-4). -/
theorem Flow.Change.waiting {a : Flow} (h : a.Change fl) (hstate : r.state = .priming ∨ r.state = .ready)
    (hread : r.readIndex = 0)
    (hblock : r.blockLen = none) (hlast : ∀ n, r.lastLen = some n → fl.rt.lastLen = some n)
    (hm : fl.rt.state.matchable = true) (hspent : a.Lawful → fl.window.NoSpent) : a.Change { fl with rt := r } := by
  refine h.rt (fun _ => hm) ?_ (fun h => .inl (hspent h)) (fun h n hn => h.2.1 n (hlast n hn)) ?_
    (fun _ _ => ⟨hblock, hread⟩)
  · obtain h | h := hstate <;> rw [h] <;> rintro (h | h | h) <;> exact FlowState.noConfusion h
  · obtain h | h := hstate <;> rw [h] <;> exact fun _ h => Bool.noConfusion h

end

theorem Flow.keepsHead_playing {fl x : Flow} {b : Block} (hstate : x.rt.state = .playing)
    (hb : x.window.entryAt 0 = .held b) : fl.KeepsHead x :=
  fun _ _ => ⟨fun _ => ⟨b, hb⟩, by rw [hstate]; rintro (h | h) <;> exact FlowState.noConfusion h⟩

theorem Flow.keepsHead_holding {fl x : Flow} (hstate : x.rt.state = .holding) (hb : x.window.entryAt 0 = .spent) :
    fl.KeepsHead x :=
  fun _ _ => ⟨by rw [hstate]; rintro (h | h | h) <;> exact FlowState.noConfusion h, fun _ => hb⟩

/-- A state that asks nothing of entry 0. -/
theorem Flow.keepsHead_free {fl x : Flow} (hstate : x.rt.state.empties ∨ x.rt.state = .priming) : fl.KeepsHead x := by
  intro _ _
  unfold Flow.HeadLawful
  obtain (h | h | h) | h := hstate <;> rw [h] <;> exact ⟨by simp, by simp⟩

/-- A flow made READY by its contiguous fill has a HELD head (R34, R68). -/
theorem Flow.keepsHead_ready {fl x : Flow} (hrecord : x.record = fl.record)
    (hprime : x.rt.state = .ready → x.record.prime ≤ x.window.contiguous)
    (hstate : x.rt.state = .ready ∨ x.rt.state = .priming) : fl.KeepsHead x := by
  intro hlawful hhead
  obtain ⟨⟨-, -, hpos, -⟩, -⟩ := id hlawful
  obtain hready | hpriming := hstate
  · refine ⟨fun _ => Window.contiguous_pos ?_, by rw [hready]; rintro (h | h) <;> exact FlowState.noConfusion h⟩
    have := hprime hready
    rw [hrecord] at this
    omega
  · exact Flow.keepsHead_free (fl := fl) (.inr hpriming) hlawful hhead

/-! ### Flushes -/

/-- A flush, and the entry into a state without a block (R40, Table 4-4): DISABLED, or one that a matchable flow may
enter. -/
theorem Flow.change_emptied {fl : Flow} {r : Runtime}
    (hstate : r.state = .disabled ∨ (r.state.presenting = false ∧ fl.rt.state.matchable = true))
    (hread : r.readIndex = 0) (hblock : r.blockLen = none) (hlast : r.lastLen = none) : fl.Change (fl.emptied r) where
  record := rfl
  matchable h := by
    obtain hd | ⟨-, hm⟩ := hstate
    · rw [show (fl.emptied r).rt.state = r.state from rfl, hd] at h
      exact Bool.noConfusion h
    · exact hm
  lawful h := by
    obtain ⟨hrecord, -⟩ := h
    refine ⟨hrecord, fun k _ => fl.entryAt_emptied r k, ?_, fun _ k => fl.entryAt_emptied r k, fun k hk => ?_⟩
    · exact (Window.fill_eq_zero fun k => by rw [Flow.entryAt_emptied]; rfl).symm
    · rw [Flow.entryAt_emptied] at hk
      exact Entry.noConfusion hk
  reads h := by
    refine ⟨fun k b hk => ?_, fun n hn => ?_, fun hp => ?_, fun _ => ⟨hblock, hread⟩⟩
    · rw [Flow.entryAt_emptied] at hk
      exact Entry.noConfusion hk
    · rw [show (fl.emptied r).rt.lastLen = r.lastLen from rfl, hlast] at hn
      exact Option.noConfusion rfl (heq_of_eq hn)
    · rw [show (fl.emptied r).rt.state = r.state from rfl] at hp
      obtain hd | ⟨hp', -⟩ := hstate
      · rw [hd] at hp; exact Bool.noConfusion hp
      · rw [hp'] at hp; exact Bool.noConfusion hp

/-! ### The head moves forward, or is spent (R36, R37) -/

/-- The flow after its head has been released and advanced. -/
def Flow.advanced (fl : Flow) : Flow :=
  { fl with window := fl.window.advanced fl.record.depth, held := fl.held - fl.window.headHeld }

theorem Flow.held_advanced {fl : Flow} (h : fl.Lawful) : fl.advanced.held + fl.window.headHeld = fl.held := by
  obtain ⟨-, -, hheld, -, -⟩ := h
  have := fl.window.headHeld_le_fill
  change fl.held - fl.window.headHeld + fl.window.headHeld = fl.held
  omega

theorem Flow.change_advanced (fl : Flow) : fl.Change fl.advanced where
  record := rfl
  matchable := id
  lawful h := by
    have hnospent := h.noSpent_advanced fl.record.depth
    obtain ⟨hrecord, hbeyond, hheld, hempty, -⟩ := h
    refine ⟨hrecord, fun k hk => ?_, ?_, fun hs k => ?_, fun k hk => absurd hk (hnospent k)⟩
    · exact (Window.entryAt_advanced _ _ _).trans (if_neg fun hin => absurd hk (by change ¬ fl.record.depth ≤ k; omega))
    · change fl.held - fl.window.headHeld = (fl.window.advanced fl.record.depth).fill
      rw [Window.fill_advanced hbeyond, hheld]
    · refine (Window.entryAt_advanced _ _ _).trans ?_
      split
      · exact hempty hs _
      · rfl
  reads h := by
    refine ⟨fun k b hk => ?_, h.2.1, h.2.2.1, h.2.2.2⟩
    rw [show fl.advanced.window = fl.window.advanced fl.record.depth from rfl, Window.entryAt_advanced] at hk
    split at hk
    · exact h.head hk
    · exact Entry.noConfusion hk

/-- The flow as the `k`-th concealment block of an episode begins (R65 to R71). -/
def Flow.concealed (fl : Flow) (k : Nat) : Flow :=
  { fl with
    counters := (fl.bump .concealed).counters, window := fl.window.withEntry 0 .spent
    held := fl.held - fl.window.headHeld, rt := fl.rt.toHolding fl.record k }

theorem concealLength_lawful (r : FlowRecord) {last : Option Nat} (h : ∀ n, last = some n → n = 6 ∨ n = 12) :
    concealLength r last = 6 ∨ concealLength r last = 12 := by
  unfold concealLength
  cases r.mode with
  | fixedFull => exact .inr rfl
  | fixedHalf => exact .inl rfl
  | perFrame =>
    cases hl : last with
    | none => exact .inr rfl
    | some n => exact h n hl

theorem Flow.entryAt_concealed (fl : Flow) (k j : Nat) :
    (fl.concealed k).window.entryAt j = if j < 32 ∧ j = 0 then .spent else fl.window.entryAt j :=
  Window.entryAt_withEntry _ _ _ _

theorem Flow.change_concealed {fl : Flow} (k : Nat) (hm : fl.rt.state.matchable = true) :
    fl.Change (fl.concealed k) where
  record := by rw [Flow.concealed]
  matchable _ := hm
  lawful h := by
    obtain ⟨hrecord, hbeyond, hheld, -, hspent⟩ := h
    refine ⟨hrecord, fun j hj => ?_, ?_, ?_, fun j hj => ⟨?_, .inl rfl⟩⟩
    · have hj' : fl.record.depth ≤ j := hj
      rw [Flow.entryAt_concealed, if_neg (by omega), hbeyond j hj']
    · change fl.held - fl.window.headHeld = (fl.window.withEntry 0 .spent).fill
      rw [Window.fill_withEntry_spent, hheld]
    · rintro (h | h | h) <;> exact FlowState.noConfusion h
    · rw [Flow.entryAt_concealed] at hj
      split at hj
      · next h0 => exact h0.2
      · exact (hspent j hj).1
  reads h := by
    refine ⟨fun j b hj => ?_, h.2.1, fun _ => ?_, fun hp => Bool.noConfusion hp⟩
    · rw [Flow.entryAt_concealed] at hj
      split at hj
      · exact Entry.noConfusion hj
      · exact h.head hj
    · exact ⟨_, rfl, concealLength_lawful fl.record h.2.1, Nat.zero_le _⟩

theorem Flow.keepsHead_concealed (fl y : Flow) (k : Nat) : y.KeepsHead (fl.concealed k) :=
  Flow.keepsHead_holding rfl ((fl.entryAt_concealed k 0).trans (if_pos ⟨by decide, rfl⟩))

theorem Flow.held_concealed {fl : Flow} (h : fl.Lawful) (k : Nat) :
    (fl.concealed k).held + fl.window.headHeld = fl.held := fl.held_advanced h

/-! ### Placements (R29, R31, R34) -/

/-- The flow after a block has been placed in the window `w` (R34, R35). -/
def Flow.placed (fl : Flow) (w : Window) : Flow :=
  { fl with
    counters := (fl.bump .accepted).counters, window := w, held := fl.held + 1
    rt := { fl.rt with silence := some 0, late := false } }

section
variable {fl : Flow} {w : Window}

/-- A placement keeps the laws where its window holds one block more, each of a lawful length, within the depth. -/
theorem Flow.change_placed (hstate : ¬ fl.rt.state.empties)
    (hbeyond : fl.Lawful → ∀ k, fl.record.depth ≤ k → w.entryAt k = .empty)
    (hfill : fl.Lawful → w.fill = fl.window.fill + 1)
    (hspent : fl.Lawful → ∀ k, w.entryAt k = .spent → fl.window.entryAt k = .spent)
    (hlengths : fl.ReadLawful → ∀ k b, w.entryAt k = .held b → b.length = 6 ∨ b.length = 12) :
    fl.Change (fl.placed w) where
  record := rfl
  matchable := id
  lawful h := by
    obtain ⟨hrecord, -, hheld, -, hspents⟩ := id h
    refine ⟨hrecord, hbeyond h, ?_, fun hs => absurd hs hstate, fun k hk => hspents k (hspent h k hk)⟩
    change fl.held + 1 = w.fill
    rw [hheld, hfill h]
  reads h := ⟨hlengths h, h.2.1, h.2.2.1, h.2.2.2⟩

theorem Flow.change_placed_startingAt {b : Block} (hstate : fl.rt.state = .priming)
    (hempty : fl.Lawful → fl.window.fill = 0) (hb : b.length = 6 ∨ b.length = 12) :
    fl.Change (fl.placed (.startingAt b)) := by
  have hentry {k : Nat} {e : Entry} (he : (Window.startingAt b).entryAt k = e) (hne : e ≠ .empty) :
    k = 0 ∧ e = .held b := by
    rw [Window.entryAt_startingAt] at he
    split at he
    · next hk => exact ⟨hk, he.symm⟩
    · exact absurd he.symm hne
  refine Flow.change_placed ?_ (fun h k hk => ?_) (fun h => ?_) (fun _ k hk => ?_) (fun _ k b' hk => ?_)
  · rw [hstate]; rintro (h | h | h) <;> exact FlowState.noConfusion h
  · obtain ⟨⟨hdepth, -⟩, -⟩ := h
    rw [Window.entryAt_startingAt, if_neg (by omega)]
  · rw [Window.fill_startingAt, hempty h]
  · exact Entry.noConfusion (hentry hk (by simp)).2
  · obtain rfl : b' = b := by simpa using (hentry hk (by simp)).2
    exact hb

theorem Flow.change_placed_withEntry {k : Nat} {b : Block} (hstate : ¬ fl.rt.state.empties) (hk : k < fl.record.depth)
    (hfree : (fl.window.entryAt k).isHeld = false) (hb : b.length = 6 ∨ b.length = 12) :
    fl.Change (fl.placed (fl.window.withEntry k (.held b))) := by
  refine Flow.change_placed hstate (fun h j hj => ?_) (fun h => ?_) (fun _ j hj => ?_) (fun h j b' hj => ?_)
  · obtain ⟨-, hbeyond, -⟩ := h
    rw [Window.entryAt_withEntry, if_neg (by omega), hbeyond j hj]
  · obtain ⟨⟨-, hdepth, -⟩, -⟩ := h
    exact Window.fill_withEntry_held b (by omega) hfree
  · rw [Window.entryAt_withEntry] at hj
    split at hj
    · exact Entry.noConfusion hj
    · exact hj
  · rw [Window.entryAt_withEntry] at hj
    split at hj
    · obtain rfl : b = b' := by simpa using hj
      exact hb
    · exact h.head hj

theorem Flow.change_placed_rebased {n : Nat} {b : Block} (hstate : fl.rt.state = .priming) (hn : 1 ≤ n)
    (hroom : n + fl.window.highest < fl.record.depth) (hb : b.length = 6 ∨ b.length = 12) :
    fl.Change (fl.placed (fl.window.rebased fl.record.depth n b)) := by
  have hentry {k : Nat} {e : Entry} (hk : (fl.window.rebased fl.record.depth n b).entryAt k = e) :
      e = .empty ∨ e = .held b ∧ k = 0 ∨ k < fl.record.depth ∧ n ≤ k ∧ fl.window.entryAt (k - n) = e := by
    by_cases h32 : k < 32
    · rw [Window.entryAt_rebased _ _ _ _ h32] at hk
      split at hk
      · next h0 => exact .inr (.inl ⟨hk.symm, h0⟩)
      · split at hk
        · next hin => exact .inr (.inr ⟨hin.2, hin.1, hk⟩)
        · exact .inl hk.symm
    · rw [Window.entryAt_of_ge _ (Nat.le_of_not_lt h32)] at hk
      exact .inl hk.symm
  refine Flow.change_placed ?_ (fun h k hk => ?_) (fun h => ?_) (fun h k hk => ?_) (fun h k b' hk => ?_)
  · rw [hstate]; rintro (h | h | h) <;> exact FlowState.noConfusion h
  · obtain h | ⟨-, h0⟩ | ⟨hlt, -⟩ := hentry (rfl : _ = (fl.window.rebased fl.record.depth n b).entryAt k)
    · exact h
    · omega
    · omega
  · obtain ⟨⟨-, hdepth, -⟩, -⟩ := h
    exact Window.fill_rebased b hn hdepth hroom
  · obtain h' | ⟨h', -⟩ | ⟨-, -, h'⟩ := hentry hk
    · exact Entry.noConfusion h'
    · exact Entry.noConfusion h'
    · exact absurd h' (h.noSpent (by rw [hstate]; exact nofun) (by rw [hstate]; rfl) _)
  · obtain h | ⟨h', -⟩ | ⟨-, -, h'⟩ := hentry hk
    · exact Entry.noConfusion h
    · obtain rfl : b' = b := by simpa using h'
      exact hb
    · exact h.head h'

end

end Sys2Proof.Machine
end

section
/-! The law of the notice list (R152, R153): it speaks of each entry's number, kind, subject and condition alone, and every
operation on the list keeps it. -/

namespace Sys2Proof.Machine

/-! ### The law, of the parts of the entries it speaks of -/

/-- What the law of the list reads of an entry. -/
structure NoticeKey where
  number : Byte
  kind : NoticeKind
  subject : Subject
  sent : Bool

def NoticeEntry.key (e : NoticeEntry) : NoticeKey :=
  { number := e.number, kind := e.kind, subject := e.subject, sent := e.isSent }

/-- The key is about this kind and subject. -/
def NoticeKey.matter (kind : NoticeKind) (x : Subject) (k : NoticeKey) : Bool :=
  decide (k.kind = kind) && decide (k.subject = x)

theorem NoticeKey.matter_iff (kind : NoticeKind) (x : Subject) (k : NoticeKey) :
    k.matter kind x = true ↔ k.kind = kind ∧ k.subject = x := by
  rw [NoticeKey.matter, Bool.and_eq_true, decide_eq_true_iff, decide_eq_true_iff]

structure KeysLawful (ks : List NoticeKey) : Prop where
  ordinary : (ks.countP fun k => !decide (k.kind = .overflow)) ≤ 16
  overflow : (ks.countP fun k => decide (k.kind = .overflow)) ≤ 1
  pending : ∀ kind x, (ks.countP fun k => k.matter kind x && !k.sent) ≤ 1
  sent : ∀ kind x, (ks.countP fun k => k.matter kind x && k.sent) ≤ 1
  numbers : (ks.map NoticeKey.number).Nodup

/-- Both laws of the list (R152, R153). -/
def NoticeUnit.Laws (n : NoticeUnit) : Prop := n.Lawful ∧ n.NumbersDistinct

theorem NoticeUnit.laws_iff (n : NoticeUnit) : n.Laws ↔ KeysLawful (n.entries.map NoticeEntry.key) := by
  have hcount (p : NoticeEntry → Bool) (q : NoticeKey → Bool) (h : ∀ e, p e = q e.key) :
      (n.entries.filter p).length = (n.entries.map NoticeEntry.key).countP q := by
    rw [← List.countP_eq_length_filter, List.countP_map]
    exact List.countP_congr fun e _ => by rw [h e]; rfl
  have hordinary := hcount (fun e => !e.inOverflowPlace) (fun k => !decide (k.kind = .overflow)) fun _ => rfl
  have hoverflow := hcount NoticeEntry.inOverflowPlace (fun k => decide (k.kind = .overflow)) fun _ => rfl
  have hpending (kind : NoticeKind) (x : Subject) := hcount (fun e => e.pendingOf kind x)
    (fun k => k.matter kind x && !k.sent) fun e => by
      rw [Bool.eq_iff_iff, NoticeEntry.pendingOf_iff, Bool.and_eq_true, NoticeKey.matter_iff, Bool.not_eq_true']
      rw [and_assoc]
      exact and_congr_right fun _ => and_congr_right fun _ => e.isSent_eq_false_iff.symm
  have hsent (kind : NoticeKind) (x : Subject) := hcount
    (fun e => e.isSent && decide (e.kind = kind) && decide (e.subject = x))
    (fun k => k.matter kind x && k.sent) fun e => by
      rw [Bool.and_assoc, Bool.and_comm]
      rfl
  have hnumbers : n.entries.map NoticeEntry.number = (n.entries.map NoticeEntry.key).map NoticeKey.number := by
    rw [List.map_map]; rfl
  unfold NoticeUnit.Laws NoticeUnit.Lawful NoticeUnit.NumbersDistinct
  rw [hordinary, hoverflow, hnumbers]
  simp only [hpending, hsent]
  exact ⟨fun ⟨⟨ho, hv, hps⟩, hd⟩ => ⟨ho, hv, fun k x => (hps k x).1, fun k x => (hps k x).2, hd⟩,
    fun ⟨ho, hv, hp, hs, hd⟩ => ⟨⟨ho, hv, fun k x => ⟨hp k x, hs k x⟩⟩, hd⟩⟩

/-- Units with the same keys in their lists have the same laws. -/
theorem NoticeUnit.Laws.congr {m n : NoticeUnit} (h : m.Laws)
    (hkeys : n.entries.map NoticeEntry.key = m.entries.map NoticeEntry.key) : n.Laws := by
  rw [NoticeUnit.laws_iff, hkeys, ← NoticeUnit.laws_iff]
  exact h

theorem NoticeUnit.Laws.sublist {m n : NoticeUnit} (h : m.Laws)
    (hsub : (n.entries.map NoticeEntry.key).Sublist (m.entries.map NoticeEntry.key)) : n.Laws := by
  rw [NoticeUnit.laws_iff] at h ⊢
  exact ⟨(hsub.countP_le).trans h.ordinary, (hsub.countP_le).trans h.overflow,
    fun k x => (hsub.countP_le).trans (h.pending k x), fun k x => (hsub.countP_le).trans (h.sent k x),
    h.numbers.sublist (hsub.map _)⟩

/-- Entries may leave the list. -/
theorem NoticeUnit.Laws.of_sublist {m n : NoticeUnit} (h : m.Laws) (hsub : n.entries.Sublist m.entries) : n.Laws :=
  h.sublist (hsub.map _)

/-! ### A raise (R151 to R154) -/

/-- A new PENDING key may join: its number free, room for its kind, and none PENDING of its matter. -/
theorem KeysLawful.append {ks : List NoticeKey} (h : KeysLawful ks) {k : NoticeKey} (hsent : k.sent = false)
    (hnumber : ∀ y ∈ ks, y.number ≠ k.number)
    (hroom : k.kind ≠ .overflow → (ks.countP fun k => !decide (k.kind = .overflow)) < 16)
    (hplace : k.kind = .overflow → (ks.countP fun k => decide (k.kind = .overflow)) = 0)
    (hnew : (ks.countP fun y => y.matter k.kind k.subject && !y.sent) = 0) : KeysLawful (ks ++ [k]) where
  ordinary := by
    rw [List.countP_append, List.countP_singleton]
    split
    · next hk => exact hroom (by simpa using hk)
    · exact h.ordinary
  overflow := by
    rw [List.countP_append, List.countP_singleton]
    split
    · next hk => rw [hplace (by simpa using hk)]
    · exact h.overflow
  pending kind x := by
    rw [List.countP_append, List.countP_singleton]
    split
    · next hk =>
      obtain ⟨⟨rfl, rfl⟩, -⟩ : (k.kind = kind ∧ k.subject = x) ∧ _ := by simpa [NoticeKey.matter] using hk
      rw [hnew]
    · exact h.pending kind x
  sent kind x := by
    rw [List.countP_append, List.countP_singleton, hsent, Bool.and_false]
    exact h.sent kind x
  numbers := by
    rw [List.map_append, List.nodup_append]
    refine ⟨h.numbers, List.nodup_singleton _, fun a ha b hb => ?_⟩
    obtain ⟨y, hy, rfl⟩ := List.mem_map.1 ha
    rw [List.mem_singleton.1 hb]
    exact hnumber y hy

theorem NoticeUnit.Laws.append {n : NoticeUnit} (h : n.Laws) {r : Raise}
    (hroom : r.kind ≠ .overflow → (n.entries.filter fun e => !e.inOverflowPlace).length < 16)
    (hplace : r.kind = .overflow → n.entries.find? NoticeEntry.inOverflowPlace = none)
    (hnew : ∀ e ∈ n.entries, ¬ e.pendingOf r.kind r.subject = true) : (n.append r).Laws := by
  have hgives := NoticeUnit.gives_giveNumber h.1
  rw [NoticeUnit.laws_iff] at h ⊢
  rw [NoticeUnit.append, List.map_append]
  refine h.append rfl (fun y hy => ?_) (fun hk => ?_) (fun hk => ?_) ?_
  · obtain ⟨e, he, rfl⟩ := List.mem_map.1 hy
    exact hgives.1 e he
  · rw [List.countP_map, List.countP_eq_length_filter]
    exact hroom hk
  · rw [List.countP_map, List.countP_eq_zero]
    exact List.find?_eq_none.1 (hplace hk)
  · rw [List.countP_map, List.countP_eq_zero]
    intro e he hmatter
    refine hnew e he ((e.pendingOf_iff _ _).2 ?_)
    have hkey : (decide (e.kind = r.kind) && decide (e.subject = r.subject) && !e.isSent) = true := hmatter
    simpa [NoticeEntry.isSent_eq_false_iff, and_assoc] using hkey

theorem map_key_updateFirst {p : NoticeEntry → Bool} {g : NoticeEntry → NoticeEntry} (h : ∀ e, (g e).key = e.key)
    (es : List NoticeEntry) : (updateFirst p g es).map NoticeEntry.key = es.map NoticeEntry.key :=
  map_updateFirst h es

theorem NoticeUnit.Laws.lose {n : NoticeUnit} (h : n.Laws) : n.lose.Laws := by
  have hflag : ({ n with overflow := true } : NoticeUnit).Laws := h.congr rfl
  cases hfind : n.entries.find? NoticeEntry.inOverflowPlace with
  | some e =>
    cases hsent : e.isSent with
    | true => rw [NoticeUnit.lose_sent hfind hsent]; exact hflag
    | false =>
      rw [NoticeUnit.lose_pending hfind hsent]
      exact h.congr (map_key_updateFirst (g := fun e => { e with repeats := saturate (e.repeats + 1) })
        (fun _ => rfl) _)
  | none =>
    cases hmask : n.mask.getLsbD 8 with
    | false => rw [NoticeUnit.lose_masked hfind hmask]; exact hflag
    | true =>
      rw [NoticeUnit.lose_appends hfind hmask]
      refine hflag.append (fun hk => absurd rfl hk) (fun _ => hfind) fun e he hp => ?_
      exact List.find?_eq_none.1 hfind e he (e.inOverflowPlace_iff.2 ((e.pendingOf_iff _ _).1 hp).1)

/-- Only a lost raise makes an OVERFLOW entry (R154). -/
theorem NoticeUnit.Laws.take {n : NoticeUnit} (h : n.Laws) {r : Raise} (hr : r.kind ≠ .overflow) : (n.take r).Laws := by
  by_cases hon : n.mask.getLsbD (noticeCode r.kind) = true
  case neg => rw [NoticeUnit.take_masked hon]; exact h
  case pos =>
    by_cases hnew : ∀ e ∈ n.entries, ¬ e.pendingOf r.kind r.subject = true
    case pos =>
      by_cases hroom : (n.entries.filter fun e => !e.inOverflowPlace).length < 16
      · rw [NoticeUnit.take_appends hon hnew hroom]
        exact h.append (fun _ => hroom) (fun hk => absurd hk hr) hnew
      · rw [NoticeUnit.take_loses hon hnew hroom]
        exact h.lose
    case neg =>
      have hany : (n.entries.any fun e => e.pendingOf r.kind r.subject) = true := by simpa using hnew
      rw [NoticeUnit.take, if_pos hon, if_pos hany]
      exact h.congr (map_key_updateFirst (g := NoticeEntry.coalesce r) (fun _ => rfl) _)

/-- The raises that an event makes: none of kind OVERFLOW (R154). -/
def Ordinary (rs : List Raise) : Prop := ∀ r ∈ rs, r.kind ≠ .overflow

theorem NoticeUnit.Laws.takeAll {n : NoticeUnit} (h : n.Laws) {rs : List Raise} (hrs : Ordinary rs) :
    (n.takeAll rs).Laws :=
  List.foldlRecOn rs NoticeUnit.take h fun _ hn r hr => hn.take (hrs r hr)

/-! ### An acknowledgement, an address change, a new mask (R157, R159, R160) -/

theorem NoticeUnit.Laws.acknowledge {n : NoticeUnit} (h : n.Laws) (number : Byte) : (n.acknowledge number).Laws := by
  unfold NoticeUnit.acknowledge
  split
  · exact h.of_sublist List.filter_sublist
  · exact h.congr rfl

theorem NoticeUnit.Laws.setMask {n : NoticeUnit} (h : n.Laws) (mask : BitVec 16) : (n.setMask mask).Laws :=
  h.of_sublist List.filter_sublist

/-- Keys made PENDING keep the law where no two are of one matter. -/
theorem KeysLawful.unsent {ks : List NoticeKey} (h : KeysLawful ks)
    (hone : ∀ kind x, (ks.countP fun k => k.matter kind x) ≤ 1) :
    KeysLawful (ks.map fun k => { k with sent := false }) where
  ordinary := by rw [List.countP_map]; exact h.ordinary
  overflow := by rw [List.countP_map]; exact h.overflow
  pending kind x := by
    rw [List.countP_map]
    exact (List.countP_mono_left fun k _ hk => (Bool.and_eq_true _ _ ▸ hk).1).trans (hone kind x)
  sent kind x := by
    rw [List.countP_map]
    refine (List.countP_eq_zero.2 fun k _ hk => ?_).le.trans (Nat.zero_le 1)
    exact Bool.false_ne_true ((Bool.and_eq_true _ _ ▸ hk).2)
  numbers := by rw [List.map_map]; exact h.numbers

theorem NoticeEntry.key_returned (es : List NoticeEntry) (e : NoticeEntry) :
    (e.returned es).key = { e.key with sent := false } := by
  have hsent : (e.returned es).isSent = false :=
    (NoticeEntry.isSent_eq_false_iff _).2 (NoticeEntry.condition_returned es e)
  have hsame : (e.returned es).number = e.number ∧ (e.returned es).kind = e.kind ∧
      (e.returned es).subject = e.subject := by
    unfold NoticeEntry.returned
    split
    · exact ⟨rfl, rfl, rfl⟩
    · split <;> exact ⟨rfl, rfl, rfl⟩
  rw [NoticeEntry.key, hsent, hsame.1, hsame.2.1, hsame.2.2]
  rfl

/-- Of one matter an address change leaves one entry: the PENDING one, or else the SENT one (R160). -/
theorem NoticeUnit.Laws.addressChanged {n : NoticeUnit} (h : n.Laws) : n.addressChanged.Laws := by
  set kept := n.entries.filter fun e => !(e.isSent && n.entries.any fun x => x.pendingOf e.kind e.subject) with hkept
  have hentries : n.addressChanged.entries.map NoticeEntry.key =
      (kept.map NoticeEntry.key).map fun k => { k with sent := false } := by
    rw [NoticeUnit.addressChanged, returnSent, List.map_map, List.map_map]
    exact List.map_congr_left fun e _ => NoticeEntry.key_returned _ e
  have hlaws : ({ n with entries := kept } : NoticeUnit).Laws := h.of_sublist List.filter_sublist
  rw [NoticeUnit.laws_iff] at hlaws ⊢
  rw [hentries]
  refine hlaws.unsent fun kind x => ?_
  by_cases hwaits : ∃ y ∈ n.entries, y.pendingOf kind x = true
  · refine le_trans (List.countP_mono_left fun k hk hmatter => ?_) (hlaws.pending kind x)
    obtain ⟨e, he, rfl⟩ := List.mem_map.1 hk
    obtain ⟨rfl, rfl⟩ : e.kind = kind ∧ e.subject = x := (NoticeKey.matter_iff _ _ _).1 hmatter
    have hany : (n.entries.any fun y => y.pendingOf e.kind e.subject) = true := List.any_eq_true.2 hwaits
    have hstays := (List.mem_filter.1 he).2
    rw [hany, Bool.and_true] at hstays
    rw [hmatter, Bool.true_and]
    exact hstays
  · refine le_trans (List.countP_mono_left fun k hk hmatter => ?_) (hlaws.sent kind x)
    obtain ⟨e, he, rfl⟩ := List.mem_map.1 hk
    obtain ⟨hk', hx'⟩ : e.kind = kind ∧ e.subject = x := (NoticeKey.matter_iff _ _ _).1 hmatter
    rw [hmatter, Bool.true_and]
    refine e.isSent_iff.2 fun hpending => hwaits ⟨e, (List.mem_filter.1 he).1,
      (e.pendingOf_iff _ _).2 ⟨hk', hx', hpending⟩⟩

/-! ### A tick (R155) -/

@[simp] theorem NoticeEntry.key_later (e : NoticeEntry) : e.later.key = e.key := by
  unfold NoticeEntry.later
  cases h : e.condition with
  | pending => rfl
  | sent m j => simp [NoticeEntry.key, NoticeEntry.isSent, h]

theorem NoticeUnit.Laws.ageAndGiveUp {n : NoticeUnit} (h : n.Laws) : n.ageAndGiveUp.Laws := by
  rw [NoticeUnit.ageAndGiveUp_eq]
  have haged : ({ n with entries := n.entries.map NoticeEntry.later } : NoticeUnit).Laws :=
    h.congr (by rw [List.map_map]; exact List.map_congr_left fun e _ => e.key_later)
  exact haged.of_sublist List.filter_sublist

/-- A key may be SENT where it was, or where no key of its matter is. -/
theorem KeysLawful.send {before behind : List NoticeKey} {k : NoticeKey} (h : KeysLawful (before ++ k :: behind))
    (hfree : k.sent = true ∨ ∀ y ∈ before ++ behind, (y.matter k.kind k.subject && y.sent) = false) :
    KeysLawful (before ++ { k with sent := true } :: behind) where
  ordinary := by
    have := h.ordinary
    rwa [List.countP_append, List.countP_cons] at this ⊢
  overflow := by
    have := h.overflow
    rwa [List.countP_append, List.countP_cons] at this ⊢
  pending kind x := by
    have := h.pending kind x
    rw [List.countP_append, List.countP_cons] at this ⊢
    simp only [Bool.not_true, Bool.and_false, Bool.false_eq_true, if_false]
    omega
  sent kind x := by
    obtain hs | hfree := hfree
    · have := h.sent kind x
      rwa [show k = { k with sent := true } by rw [← hs]] at this
    · rw [List.countP_append, List.countP_cons]
      split
      · next hk =>
        obtain ⟨rfl, rfl⟩ : k.kind = kind ∧ k.subject = x := by simpa [NoticeKey.matter] using hk
        rw [← Nat.add_assoc, ← List.countP_append, List.countP_eq_zero.2 fun y hy => by simp [hfree y hy]]
      · have := h.sent kind x
        rw [List.countP_append, List.countP_cons] at this
        omega
  numbers := by
    have := h.numbers
    rwa [List.map_append, List.map_cons] at this ⊢

/-- Among distinct numbers, an element of the list stands once. -/
theorem NoticeUnit.Laws.send {n : NoticeUnit} (h : n.Laws) (holder : Option Addr) {e : NoticeEntry} (he : e ∈ n.entries)
    (hfree : e.isSent = true ∨ n.eligible e = true) : (n.send holder e).Laws := by
  obtain ⟨before, behind, hes⟩ := List.append_of_mem he
  have hnumber := number_ne_of_distinct h.2 hes
  have hbefore : ∀ y ∈ before, decide (y = e) = false := fun y hy =>
    decide_eq_false fun h => hnumber y (List.mem_append_left _ hy) (by rw [h])
  rw [NoticeUnit.laws_iff] at h ⊢
  rw [NoticeUnit.send, hes, updateFirst_at _ _ before e behind hbefore (decide_eq_true rfl), List.map_append,
    List.map_cons]
  rw [hes, List.map_append, List.map_cons] at h
  refine h.send (hfree.imp_right fun helig k hk => ?_)
  rw [← List.map_append] at hk
  obtain ⟨y, hy, rfl⟩ := List.mem_map.1 hk
  have hnone := ((n.eligible_iff e).1 helig).2
  refine Bool.eq_false_iff.2 fun hm => ?_
  rw [Bool.and_eq_true] at hm
  obtain ⟨hmatter, hsent⟩ := hm
  refine hnone ⟨y, ?_, y.isSent_iff.1 hsent, (NoticeKey.matter_iff _ _ _).1 hmatter⟩
  rw [hes, List.mem_append, List.mem_cons]
  rw [List.mem_append] at hy
  tauto

/-- What is chosen to be sent stands in the list, and is SENT already or eligible (R155 step 3). -/
theorem NoticeUnit.choose_lawful {n : NoticeUnit} {e : NoticeEntry} (h : n.choose = some e) :
    e ∈ n.entries ∧ (e.isSent = true ∨ n.eligible e = true) := by
  unfold NoticeUnit.choose at h
  split at h
  · next x hx =>
    obtain rfl := Option.some.inj h
    refine ⟨List.mem_of_find?_eq_some hx, .inl (x.isSent_iff.2 fun hp => ?_)⟩
    have hdue := ((n.mayResend_iff x).1 (List.find?_some hx)).1
    rw [NoticeEntry.isDue, hp] at hdue
    exact Bool.noConfusion hdue
  · split at h
    · exact ⟨List.mem_of_find?_eq_some h, .inr (List.find?_some h)⟩
    · exact Option.noConfusion rfl (heq_of_eq h)

theorem State.noticeTick_laws {s : State} (h : s.notice.Laws) : s.noticeTick.notice.Laws := by
  rw [State.noticeTick]
  split
  · split
    · next e he =>
      obtain ⟨hmem, hfree⟩ := NoticeUnit.choose_lawful he
      exact h.ageAndGiveUp.send _ hmem hfree
    · exact h.ageAndGiveUp
  · exact h.ageAndGiveUp

end Sys2Proof.Machine
end

section
/-! What every event keeps. `State.Keeps` gathers the laws of the unit that a step keeps; each operation has its lemma here
and in the next sections, and the laws of a whole event follow by composition. -/

namespace Sys2Proof.Machine

/-- The laws of flows and pool. -/
structure State.KeepsFlows (s t : State) : Prop where
  pool : s.PoolLawful → t.PoolLawful
  heads : s.PoolLawful → s.DrainLawful → s.HeadsLawful → t.HeadsLawful
  reads : s.ReadsLawful → t.ReadsLawful
  tags : s.TagsLawful → t.TagsLawful

/-- The laws of groups. -/
structure State.KeepsGroups (s t : State) : Prop where
  groups : s.GroupsLawful → t.GroupsLawful
  references : s.ReferencesLawful → t.ReferencesLawful

/-- The laws of the management engine, of drains and of notices. `K` says whether the claim record is watched: within a tick
the lease may stand at 0 until the expiry is taken (R138). -/
structure State.KeepsControl (K : Prop) (s t : State) : Prop where
  management : s.ManagementLawful → t.ManagementLawful
  claim : K → s.mgmt.claim.Lawful → t.mgmt.claim.Lawful
  drain : s.DrainLawful → t.DrainLawful
  notice : s.notice.Laws → t.notice.Laws
  pending : t.pending = s.pending

structure State.Keeps (K : Prop) (s t : State) : Prop where
  flows : s.KeepsFlows t
  groups : s.KeepsGroups t
  control : s.KeepsControl K t

theorem State.Keeps.refl (K : Prop) (s : State) : s.Keeps K s :=
  ⟨⟨id, fun _ _ => id, id, id⟩, ⟨id, id⟩, ⟨id, fun _ => id, id, id, rfl⟩⟩

theorem State.KeepsControl.trans {K : Prop} {s t u : State} (h : s.KeepsControl K t) (h' : t.KeepsControl K u) :
    s.KeepsControl K u where
  management := h'.management ∘ h.management
  claim hk := h'.claim hk ∘ h.claim hk
  drain := h'.drain ∘ h.drain
  notice := h'.notice ∘ h.notice
  pending := h'.pending.trans h.pending

theorem State.KeepsFlows.trans {K : Prop} {s t u : State} (h : s.KeepsFlows t) (hcontrol : s.KeepsControl K t)
    (h' : t.KeepsFlows u) : s.KeepsFlows u where
  pool := h'.pool ∘ h.pool
  heads hp hd hh := h'.heads (h.pool hp) (hcontrol.drain hd) (h.heads hp hd hh)
  reads := h'.reads ∘ h.reads
  tags := h'.tags ∘ h.tags

theorem State.Keeps.trans {K : Prop} {s t u : State} (h : s.Keeps K t) (h' : t.Keeps K u) : s.Keeps K u where
  flows := h.flows.trans h.control h'.flows
  groups := ⟨h'.groups.groups ∘ h.groups.groups, h'.groups.references ∘ h.groups.references⟩
  control := h.control.trans h'.control

theorem State.Keeps.foldl {K : Prop} {α : Type} {op : State → α → State}
    (h : ∀ (s : State) a, s.Keeps K (op s a)) (l : List α)
    (s : State) : s.Keeps K (l.foldl op s) :=
  List.foldlRecOn l op (.refl K s) fun t ht a _ => ht.trans (h t a)

/-! ### Flows and pool -/

theorem sum_allFlows (g : FlowIx → Nat) : (allFlows.map g).sum = ∑ f, g f := by
  rw [Fin.sum_univ_def]; rfl

/-- A sum over the flows, after a change of one of them. -/
theorem sum_flow_changed {s t : State} {f : FlowIx} {x : Flow} (h : ∀ y, t.flow y = if y = f then x else s.flow y)
    (m : Flow → Nat) :
    (allFlows.map fun y => m (t.flow y)).sum + m (s.flow f) = (allFlows.map fun y => m (s.flow y)).sum + m x := by
  have hothers : ∑ y ∈ Finset.univ.erase f, m (t.flow y) = ∑ y ∈ Finset.univ.erase f, m (s.flow y) :=
    Finset.sum_congr rfl fun y hy => by rw [h y, if_neg (Finset.ne_of_mem_erase hy)]
  have hs := Finset.add_sum_erase Finset.univ (fun y => m (s.flow y)) (Finset.mem_univ f)
  have ht := Finset.add_sum_erase Finset.univ (fun y => m (t.flow y)) (Finset.mem_univ f)
  have hf : m (t.flow f) = m x := by rw [h f, if_pos rfl]
  rw [sum_allFlows, sum_allFlows]
  omega

/-- The reservation of a flow shrinks as its held count grows, down to nothing at its prime depth (R45). -/
theorem Flow.owed_of_matchable {fl : Flow} (h : fl.rt.state.matchable = true) : fl.owed = fl.record.prime - fl.held :=
  if_pos h

theorem Flow.owed_of_not_matchable {fl : Flow} (h : fl.rt.state.matchable = false) : fl.owed = 0 := by
  rw [Flow.owed, h]; rfl

/-- A change of one flow that conserves buffers, and takes none that is reserved for another flow (R44 to R48). -/
structure State.Accounts (s : State) (f : FlowIx) (x : Flow) (free : Nat) : Prop where
  conserves : free + x.held = s.pool.free + (s.flow f).held
  reserved : x.held ≤ (s.flow f).held ∨
    ((s.flow f).rt.state.matchable = true ∧ x.held ≤ (s.flow f).record.prime) ∨
    (x.held ≤ (s.flow f).held + 1 ∧ s.outstanding < s.pool.free)

theorem State.poolLawful_of_change {s t : State} {f : FlowIx} {x : Flow}
    (hflow : ∀ y, t.flow y = if y = f then x else s.flow y) (hchange : (s.flow f).Change x)
    (haccounts : s.Accounts f x t.pool.free) (h : s.PoolLawful) : t.PoolLawful := by
  obtain ⟨hlaws, htotal, hout⟩ := h
  have hheld := sum_flow_changed hflow Flow.held
  have howed := sum_flow_changed hflow Flow.owed
  change t.heldTotal + _ = s.heldTotal + _ at hheld
  change t.outstanding + _ = s.outstanding + _ at howed
  have hconserves := haccounts.conserves
  refine ⟨fun y => ?_, by omega, ?_⟩
  · rw [hflow y]
    split
    · exact hchange.lawful (hlaws f)
    · exact hlaws y
  · cases hm : x.rt.state.matchable with
    | false =>
      have hx := Flow.owed_of_not_matchable hm
      cases hfm : (s.flow f).rt.state.matchable with
      | false =>
        have hf := Flow.owed_of_not_matchable hfm
        obtain hr | ⟨hr, -⟩ | hr := haccounts.reserved
        · omega
        · rw [hfm] at hr; exact Bool.noConfusion hr
        · omega
      | true =>
        have hf := Flow.owed_of_matchable hfm
        obtain hr | ⟨-, hr⟩ | hr := haccounts.reserved <;> omega
    | true =>
      have hx := Flow.owed_of_matchable hm
      have hf := Flow.owed_of_matchable (hchange.matchable hm)
      rw [hchange.record] at hx
      obtain hr | ⟨-, hr⟩ | hr := haccounts.reserved <;> omega

theorem State.tagsLawful_of_changes {s t : State}
    (h : ∀ y, (t.flow y).record = (s.flow y).record ∧
      ((t.flow y).rt.state.matchable = true → (s.flow y).rt.state.matchable = true))
    (htags : s.TagsLawful) : t.TagsLawful := by
  obtain ⟨hset, hdistinct⟩ := htags
  refine ⟨fun y hy => ?_, fun y z hy hz hsame => ?_⟩
  · rw [(h y).1]
    exact hset y ((h y).2 hy)
  · rw [(h y).1, (h z).1] at hsame
    exact hdistinct y z ((h y).2 hy) ((h z).2 hz) hsame

theorem State.KeepsFlows.of_change {s t : State} {f : FlowIx} {x : Flow}
    (hflow : ∀ y, t.flow y = if y = f then x else s.flow y) (hchange : (s.flow f).Change x)
    (hhead : s.DrainLawful → (s.flow f).KeepsHead x) (haccounts : s.PoolLawful → s.Accounts f x t.pool.free) :
    s.KeepsFlows t where
  pool h := State.poolLawful_of_change hflow hchange (haccounts h) h
  heads hp hd hh y := by
    rw [hflow y]
    split
    · exact hhead hd (hp.1 f) (hh f)
    · exact hh y
  reads h y := by
    rw [hflow y]
    split
    · exact hchange.reads (h f)
    · exact h y
  tags := State.tagsLawful_of_changes fun y => by
    rw [hflow y]
    split
    · next hy => rw [hy]; exact ⟨hchange.record, hchange.matchable⟩
    · exact ⟨rfl, id⟩

/-- Changes of many flows that move no buffer. -/
theorem State.KeepsFlows.of_changes {s t : State} (hchange : ∀ y, (s.flow y).Change (t.flow y))
    (hhead : ∀ y, (s.flow y).KeepsHead (t.flow y)) (hheld : ∀ y, (t.flow y).held = (s.flow y).held)
    (hfree : t.pool.free = s.pool.free) : s.KeepsFlows t where
  pool := by
    rintro ⟨hlaws, htotal, hout⟩
    have howed : t.outstanding ≤ s.outstanding := by
      refine List.sum_le_sum fun y _ => ?_
      cases hm : (t.flow y).rt.state.matchable with
      | false => rw [Flow.owed_of_not_matchable hm]; exact Nat.zero_le _
      | true =>
        rw [Flow.owed_of_matchable hm, Flow.owed_of_matchable ((hchange y).matchable hm), hheld, (hchange y).record]
    refine ⟨fun y => (hchange y).lawful (hlaws y), ?_, by omega⟩
    rw [hfree, State.heldTotal, List.map_congr_left fun y _ => hheld y]
    exact htotal
  heads hp _ hh y := hhead y (hp.1 y) (hh y)
  reads h y := (hchange y).reads (h y)
  tags := State.tagsLawful_of_changes fun y => ⟨(hchange y).record, (hchange y).matchable⟩

theorem State.KeepsFlows.of_same {s t : State} (hflows : ∀ y, t.flow y = s.flow y) (hfree : t.pool.free = s.pool.free) :
    s.KeepsFlows t :=
  .of_changes (fun y => by rw [hflows]; exact .refl _) (fun y => by rw [hflows]; exact .refl _)
    (fun y => by rw [hflows]) hfree

/-! ### Groups (R82, R83, R91) -/

theorem State.referencesLawful_iff (s : State) :
    s.ReferencesLawful ↔ ∀ g, (s.group g).state = .running ↔ ∃ f, s.candidate g f = true :=
  forall_congr' fun g => by rw [State.isSome_reference_iff]

/-- The group keeps its state, and its slip debt its law. -/
def Group.Regroups (g y : Group) : Prop := y.state = g.state ∧ (g.Lawful → y.Lawful)

theorem Group.Regroups.refl (g : Group) : g.Regroups g := ⟨rfl, id⟩

/-- No group changes its state, and the candidates are as before, or join a group that is RUNNING. -/
theorem State.KeepsGroups.of_candidates {s t : State} (hgroup : ∀ g, (s.group g).Regroups (t.group g))
    (hcandidate : ∀ g f, t.candidate g f = s.candidate g f ∨ (t.candidate g f = true ∧ (s.group g).state = .running)) :
    s.KeepsGroups t where
  groups h g := (hgroup g).2 (h g)
  references h := by
    rw [State.referencesLawful_iff] at h ⊢
    intro g
    rw [(hgroup g).1]
    refine ⟨fun hrunning => ?_, fun ⟨f, hf⟩ => ?_⟩
    · obtain ⟨f, hf⟩ := (h g).1 hrunning
      refine ⟨f, ?_⟩
      obtain hsame | ⟨hjoins, -⟩ := hcandidate g f
      · rw [hsame, hf]
      · exact hjoins
    · obtain hsame | ⟨-, hrunning⟩ := hcandidate g f
      · exact (h g).2 ⟨f, by rw [← hsame, hf]⟩
      · exact hrunning

/-- Whether a flow is a candidate is read off its record and state. -/
theorem State.candidate_congr {s t : State} {f : FlowIx} (g : GroupIx) (hrecord : (t.flow f).record = (s.flow f).record)
    (hplays : (t.flow f).rt.state.playsOrHolds = (s.flow f).rt.state.playsOrHolds) :
    t.candidate g f = s.candidate g f := by
  rw [Bool.eq_iff_iff, State.candidate_iff, State.candidate_iff, ← FlowState.playsOrHolds_iff,
    ← FlowState.playsOrHolds_iff, hrecord, hplays]

theorem State.KeepsGroups.of_same {s t : State} (hgroup : ∀ g, t.group g = s.group g)
    (hflows : ∀ y, (t.flow y).record = (s.flow y).record ∧
      (t.flow y).rt.state.playsOrHolds = (s.flow y).rt.state.playsOrHolds) : s.KeepsGroups t :=
  .of_candidates (fun g => by rw [hgroup]; exact .refl _) fun g f =>
    .inl (State.candidate_congr g (hflows f).1 (hflows f).2)

theorem Group.lawful_cleared_forming (g : Group) : (g.cleared .forming).Lawful :=
  ⟨show (-8 : Int) ≤ 0 by decide, show (0 : Int) ≤ 8 by decide, fun _ => rfl⟩

/-- A flow has left PLAYING and HOLDING, and its group has been settled (R82). -/
theorem State.KeepsGroups.of_loss {s t : State} {f : FlowIx} (hgroups : s.groupsAfterLoss t f)
    (hothers : ∀ y, y ≠ f → t.flow y = s.flow y) (hleft : (t.flow f).rt.state.playsOrHolds = false) :
    s.KeepsGroups t := by
  have hgone (g : GroupIx) : t.candidate g f = false := by rw [State.candidate, hleft, Bool.and_false]
  have hother (g : GroupIx) {y : FlowIx} (hy : y ≠ f) : t.candidate g y = s.candidate g y :=
    State.candidate_congr g (by rw [hothers y hy]) (by rw [hothers y hy])
  refine ⟨fun h g => ?_, fun h => ?_⟩
  · by_cases hleads : s.leads f g
    · rw [(hgroups g).1 hleads]
      exact (s.group g).lawful_cleared_forming
    · rw [(hgroups g).2 hleads]
      exact h g
  · rw [State.referencesLawful_iff] at h ⊢
    intro g
    by_cases hleads : s.leads f g
    · obtain ⟨-, -, hnone⟩ := id hleads
      rw [(hgroups g).1 hleads]
      refine ⟨fun hforming => GroupState.noConfusion hforming, fun ⟨y, hy⟩ => ?_⟩
      by_cases hyf : y = f
      · rw [hyf, hgone] at hy; exact Bool.noConfusion hy
      · rw [hother g hyf, hnone y hyf] at hy; exact Bool.noConfusion hy
    · rw [(hgroups g).2 hleads]
      refine ⟨fun hrunning => ?_, fun ⟨y, hy⟩ => ?_⟩
      · by_contra hnone
        obtain ⟨y, hy⟩ := (h g).1 hrunning
        have hnone' (z : FlowIx) (hz : z ≠ f) : s.candidate g z = false :=
          Bool.eq_false_iff.2 fun hc => hnone ⟨z, by rw [hother g hz, hc]⟩
        obtain rfl : y = f := by_contra fun hyf => by rw [hnone' y hyf] at hy; exact Bool.noConfusion hy
        exact hleads ⟨hrunning, ((s.candidate_iff g y).1 hy).1, hnone'⟩
      · refine (h g).2 ⟨y, ?_⟩
        rw [← hother g fun hyf => by rw [hyf, hgone] at hy; exact Bool.noConfusion hy, hy]

/-! ### The control blocks -/

/-- The management engine and its answers stay, and no drain begins or ends. -/
theorem State.KeepsControl.of_frame {K : Prop} {s t : State} (hmgmt : t.mgmt = s.mgmt)
    (hanswers : t.ring.answers = s.ring.answers) (hstatus : t.lane.status = s.lane.status ∨ t.lane.status = .present)
    (hdraining : s.DrainLawful → ∀ f, (t.flow f).rt.state.isDraining = (s.flow f).rt.state.isDraining)
    (hnotice : s.notice.Laws → t.notice.Laws) (hpending : t.pending = s.pending) : s.KeepsControl K t where
  management h := by rw [State.ManagementLawful, hmgmt, hanswers]; exact h
  claim _ h := by rw [hmgmt]; exact h
  drain h := by
    obtain ⟨hdrains, hwaits⟩ := id h
    refine ⟨fun f => by rw [hdraining h, hmgmt]; exact hdrains f, fun f hf => ?_⟩
    rw [hmgmt] at hf ⊢
    obtain ⟨hpresent, hfront⟩ := hwaits f hf
    exact ⟨hstatus.elim (fun h => h.trans hpresent) id, hfront⟩
  notice := hnotice
  pending := hpending

/-- What leaves flows, pool, groups, commands, answers and the clock's status alone. -/
theorem State.Keeps.of_quiet {K : Prop} {s t : State} (hflows : t.flows = s.flows) (hfree : t.pool.free = s.pool.free)
    (hgroups : t.groups = s.groups) (hmgmt : t.mgmt = s.mgmt) (hanswers : t.ring.answers = s.ring.answers)
    (hstatus : t.lane.status = s.lane.status ∨ t.lane.status = .present) (hnotice : s.notice.Laws → t.notice.Laws)
    (hpending : t.pending = s.pending) : s.Keeps K t := by
  have hflow (y : FlowIx) : t.flow y = s.flow y := by rw [State.flow, State.flow, hflows]
  exact ⟨.of_same hflow hfree, .of_same (fun g => by rw [State.group, State.group, hgroups])
    fun y => by rw [hflow]; exact ⟨rfl, rfl⟩,
    .of_frame hmgmt hanswers hstatus (fun _ y => by rw [hflow]) hnotice hpending⟩

theorem State.Keeps.raise {K : Prop} (s : State) {r : Raise} (hr : r.kind ≠ .overflow) : s.Keeps K (s.raise r) :=
  .of_quiet rfl rfl rfl rfl rfl (.inl rfl) (fun h => h.take hr) rfl

/-! ### One flow turned into another -/

/-- The unit with flow `f` as `x`, the pool as `p`, and the notices of `rs` raised. -/
def State.becomes (s : State) (f : FlowIx) (x : Flow) (p : Pool) (rs : List Raise) : State :=
  ((s.setFlow f x).withPool p).withNotice (s.notice.takeAll rs)

section
variable {K : Prop} {s : State} {f : FlowIx} {x : Flow} {p : Pool} {rs : List Raise}

theorem State.flow_becomes (y : FlowIx) : (s.becomes f x p rs).flow y = if y = f then x else s.flow y := by
  rw [State.becomes, State.flow_withNotice, State.flow_withPool, State.flow_setFlow]

theorem State.flow_becomes_self : (s.becomes f x p rs).flow f = x := State.flow_becomes f |>.trans (if_pos rfl)

variable (hchange : (s.flow f).Change x) (hhead : s.DrainLawful → (s.flow f).KeepsHead x)
  (haccounts : s.PoolLawful → s.Accounts f x p.free) (hrs : Ordinary rs)
  (hdraining : s.DrainLawful → x.rt.state.isDraining = (s.flow f).rt.state.isDraining)

include hrs hdraining in
theorem State.keepsControl_becomes : s.KeepsControl K (s.becomes f x p rs) := by
  refine .of_frame rfl rfl (.inl rfl) (fun hdrain y => ?_) (fun hn => hn.takeAll hrs) rfl
  rw [State.flow_becomes]
  split
  · next hy => rw [hy, hdraining hdrain]
  · rfl

include hchange hhead haccounts hrs hdraining

/-- The flow stays a candidate, or none; or it joins a group that is RUNNING. -/
theorem State.keeps_becomes
    (hplays : x.rt.state.playsOrHolds = (s.flow f).rt.state.playsOrHolds ∨
      (x.rt.state.playsOrHolds = true ∧ ∀ g, (s.flow f).record.group = some g → (s.group g).state = .running)) :
    s.Keeps K (s.becomes f x p rs) := by
  refine ⟨.of_change State.flow_becomes hchange hhead haccounts, .of_candidates (fun g => .refl _) fun g y => ?_,
    State.keepsControl_becomes hrs hdraining⟩
  by_cases hy : y = f
  · subst hy
    have hself : (s.becomes y x p rs).flow y = x := State.flow_becomes_self
    obtain hsame | ⟨hjoins, hrunning⟩ := hplays
    · exact .inl (State.candidate_congr g (by rw [hself, hchange.record]) (by rw [hself, hsame]))
    · by_cases hg : (s.flow y).record.group = some g
      · refine .inr ⟨?_, hrunning g hg⟩
        rw [State.candidate_iff, ← FlowState.playsOrHolds_iff, hself, hchange.record]
        exact ⟨hg, hjoins⟩
      · refine .inl ?_
        rw [Bool.eq_iff_iff, State.candidate_iff, State.candidate_iff, hself, hchange.record]
        exact ⟨fun h => absurd h.1 hg, fun h => absurd h.1 hg⟩
  · have hother : (s.becomes f x p rs).flow y = s.flow y := (State.flow_becomes y).trans (if_neg hy)
    exact .inl (State.candidate_congr g (by rw [hother]) (by rw [hother]))

/-- The flow leaves PLAYING and HOLDING, or stays out of them, and its group is settled (R82). -/
theorem State.keeps_becomes_settled (hleft : x.rt.state.playsOrHolds = false) :
    s.Keeps K ((s.becomes f x p rs).settleGroupOf f) := by
  have hflow (y : FlowIx) : ((s.becomes f x p rs).settleGroupOf f).flow y = if y = f then x else s.flow y := by
    rw [State.flow_settleGroupOf, State.flow_becomes]
  have hother {y : FlowIx} (hy : y ≠ f) : (s.becomes f x p rs).flow y = s.flow y :=
    (State.flow_becomes y).trans (if_neg hy)
  have hself : (s.becomes f x p rs).flow f = x := State.flow_becomes_self
  have hcontrol : s.KeepsControl K (s.becomes f x p rs) := State.keepsControl_becomes hrs hdraining
  refine ⟨.of_change hflow hchange hhead fun h => ?_, .of_loss (f := f) ?_ (fun y hy => ?_) ?_, ?_⟩
  · rw [State.pool_settleGroupOf]
    exact haccounts h
  · exact s.groupsAfterLoss_settle _ f (fun _ => rfl) (fun _ => hother) (by rw [hself, hchange.record])
      (by rw [hself, hleft])
  · rw [State.flow_settleGroupOf, hother hy]
  · rw [State.flow_settleGroupOf, hself, hleft]
  · refine ⟨fun h => ?_, fun hk h => ?_, fun h => ?_, fun h => ?_, ?_⟩
    · rw [State.ManagementLawful, State.mgmt_settleGroupOf, State.ring_settleGroupOf]
      exact hcontrol.management h
    · rw [State.mgmt_settleGroupOf]; exact hcontrol.claim hk h
    · rw [State.DrainLawful, State.mgmt_settleGroupOf, State.lane_settleGroupOf]
      simp only [State.flow_settleGroupOf]
      exact hcontrol.drain h
    · rw [State.notice_settleGroupOf]; exact hcontrol.notice h
    · rw [State.pending_settleGroupOf]; exact hcontrol.pending

end

/-- The event makes `x` of flow `f`, gives back the buffers that `x` holds no longer, and raises notices; nothing else. -/
def State.Turns (s : State) (f : FlowIx) (x : Flow) (t : State) : Prop :=
  ∃ back rs, t = s.becomes f x (s.pool.released back) rs ∧ Ordinary rs ∧ (s.flow f).Change x ∧
    ((s.flow f).Lawful → x.held + back = (s.flow f).held)

section
variable {s t u : State} {f : FlowIx} {x y : Flow}

theorem State.Turns.flow (h : s.Turns f x t) (z : FlowIx) : t.flow z = if z = f then x else s.flow z := by
  obtain ⟨back, rs, rfl, -⟩ := h
  exact State.flow_becomes z

theorem State.Turns.flow_self (h : s.Turns f x t) : t.flow f = x := (h.flow f).trans (if_pos rfl)

theorem State.Turns.change (h : s.Turns f x t) : (s.flow f).Change x := by
  obtain ⟨-, -, -, -, hchange, -⟩ := h
  exact hchange

theorem State.Turns.trans (h : s.Turns f x t) (h' : t.Turns f y u) : s.Turns f y u := by
  have hx := h.flow_self
  obtain ⟨a, rs, rfl, hrs, hchange, hheld⟩ := h
  obtain ⟨b, qs, rfl, hqs, hchange', hheld'⟩ := h'
  rw [hx] at hchange' hheld'
  refine ⟨a + b, rs ++ qs, ?_, fun r hr => ?_, hchange.trans hchange', fun hlaw => ?_⟩
  · rw [State.becomes, State.becomes, State.becomes, NoticeUnit.takeAll_append, ← Pool.released_released]
    simp
  · exact (List.mem_append.1 hr).elim (hrs r) (hqs r)
  · have h₁ := hheld hlaw
    have h₂ := hheld' (hchange.lawful hlaw)
    omega

theorem State.turns_setFlow (hchange : (s.flow f).Change x) (hheld : x.held = (s.flow f).held) :
    s.Turns f x (s.setFlow f x) :=
  ⟨0, [], rfl, nofun, hchange, fun _ => hheld⟩

theorem State.Turns.raise (h : s.Turns f x t) {r : Raise} (hr : r.kind ≠ .overflow) : s.Turns f x (t.raise r) := by
  obtain ⟨back, rs, rfl, hrs, hchange, hheld⟩ := h
  refine ⟨back, rs ++ [r], ?_, fun q hq => ?_, hchange, hheld⟩
  · change _ = ((s.setFlow f x).withPool _).withNotice (s.notice.takeAll (rs ++ [r]))
    rw [NoticeUnit.takeAll_append]
    rfl
  · rw [List.mem_append, List.mem_singleton] at hq
    obtain hq | rfl := hq
    · exact hrs q hq
    · exact hr

theorem State.ordinary_wrapRaises (s : State) (f : FlowIx) (c : Counter) : Ordinary (s.wrapRaises f c) := by
  intro r hr
  unfold State.wrapRaises at hr
  split at hr
  · rw [List.mem_singleton.1 hr]; exact nofun
  · exact absurd hr (List.not_mem_nil)

theorem State.turns_count (s : State) (f : FlowIx) (c : Counter) : s.Turns f ((s.flow f).bump c) (s.count f c) :=
  ⟨0, s.wrapRaises f c, s.count_eq f c, s.ordinary_wrapRaises f c, (s.flow f).change_bump c, fun _ => rfl⟩

theorem State.turns_advance (s : State) (f : FlowIx) : s.Turns f (s.flow f).advanced (s.advance f) :=
  ⟨(s.flow f).window.headHeld, [], s.advance_eq f, nofun, (s.flow f).change_advanced, Flow.held_advanced⟩

theorem State.turns_concealNext (k : Nat) (hm : (s.flow f).rt.state.matchable = true) :
    s.Turns f ((s.flow f).concealed k) (s.concealNext f k) :=
  ⟨(s.flow f).window.headHeld, s.wrapRaises f .concealed, s.concealNext_eq f k, s.ordinary_wrapRaises f _,
    Flow.change_concealed k hm, fun h => Flow.held_concealed h k⟩

/-- A flush, and the entry into a state without a block. -/
theorem State.turns_flush {r : Runtime}
    (hstate : r.state = .disabled ∨ (r.state.presenting = false ∧ (s.flow f).rt.state.matchable = true))
    (hread : r.readIndex = 0) (hblock : r.blockLen = none) (hlast : r.lastLen = none) :
    s.Turns f ((s.flow f).emptied r)
      ((s.setFlow f ((s.flow f).emptied r)).withPool (s.pool.released (s.flow f).held)) :=
  ⟨(s.flow f).held, [], rfl, nofun, Flow.change_emptied hstate hread hblock hlast, fun _ => Nat.zero_add _⟩

theorem State.Turns.accounts {back : Nat} (hheld : (s.flow f).Lawful → x.held + back = (s.flow f).held)
    (hpool : s.PoolLawful) : s.Accounts f x (s.pool.released back).free := by
  have hback := hheld (hpool.1 f)
  refine ⟨?_, .inl (by omega)⟩
  rw [Pool.free_released]
  omega

theorem State.Turns.keepsFlows (h : s.Turns f x t) (hhead : s.DrainLawful → (s.flow f).KeepsHead x) :
    s.KeepsFlows t := by
  obtain ⟨back, rs, rfl, -, hchange, hheld⟩ := h
  exact .of_change State.flow_becomes hchange hhead (State.Turns.accounts hheld)

theorem State.Turns.keepsControl {K : Prop} (h : s.Turns f x t)
    (hdraining : s.DrainLawful → x.rt.state.isDraining = (s.flow f).rt.state.isDraining) : s.KeepsControl K t := by
  obtain ⟨back, rs, rfl, hrs, -⟩ := h
  exact State.keepsControl_becomes hrs hdraining

theorem State.Turns.keeps {K : Prop} (h : s.Turns f x t) (hhead : s.DrainLawful → (s.flow f).KeepsHead x)
    (hdraining : s.DrainLawful → x.rt.state.isDraining = (s.flow f).rt.state.isDraining)
    (hplays : x.rt.state.playsOrHolds = (s.flow f).rt.state.playsOrHolds ∨
      (x.rt.state.playsOrHolds = true ∧ ∀ g, (s.flow f).record.group = some g → (s.group g).state = .running)) :
    s.Keeps K t := by
  obtain ⟨back, rs, rfl, hrs, hchange, hheld⟩ := h
  exact State.keeps_becomes hchange hhead (State.Turns.accounts hheld) hrs hdraining hplays

theorem State.Turns.keeps_settled {K : Prop} (h : s.Turns f x t) (hhead : s.DrainLawful → (s.flow f).KeepsHead x)
    (hdraining : s.DrainLawful → x.rt.state.isDraining = (s.flow f).rt.state.isDraining)
    (hleft : x.rt.state.playsOrHolds = false) : s.Keeps K (t.settleGroupOf f) := by
  obtain ⟨back, rs, rfl, hrs, hchange, hheld⟩ := h
  exact State.keeps_becomes_settled hchange hhead (State.Turns.accounts hheld) hrs hdraining hleft

end

end Sys2Proof.Machine
end

section
/-! What a matched frame keeps (Sections 1.2 and 2.3): placements, starts, jumps, and the discards. -/

namespace Sys2Proof.Machine

section
variable {K : Prop} {s : State} {f : FlowIx}

/-! ### Counting and the prime check -/

theorem State.Keeps.count (s : State) (f : FlowIx) (c : Counter) : s.Keeps K (s.count f c) :=
  (s.turns_count f c).keeps (fun _ => (s.flow f).keepsHead_bump c) (fun _ => rfl) (.inl rfl)

theorem Flow.change_toReady {fl : Flow} (hstate : fl.rt.state = .priming) :
    fl.Change { fl with rt := fl.rt.toReady } := by
  have hrests : fl.rt.state.presenting = false := by rw [hstate]; rfl
  refine Flow.change_rt (fun _ => by rw [hstate]; rfl) ?_
    (fun h => .inl (h.noSpent (by rw [hstate]; exact nofun) (by rw [hstate]; rfl))) (fun h => h.2.1)
    (fun _ h => Bool.noConfusion h) (fun h _ => h.2.2.2 hrests)
  rintro (h | h | h) <;> exact FlowState.noConfusion h

theorem State.Keeps.checkPrime (s : State) (f : FlowIx) : s.Keeps K (s.checkPrime f) := by
  unfold State.checkPrime
  dsimp only
  split
  · next h =>
    obtain ⟨hstate, hprime⟩ := h
    refine (State.turns_setFlow (Flow.change_toReady hstate) rfl).keeps
      (fun _ => Flow.keepsHead_ready rfl (fun _ => hprime) (.inl rfl)) (fun _ => ?_) (.inl ?_)
    all_goals rw [hstate]; rfl
  · exact .refl K s

/-! ### Placements -/

theorem Pool.ordinary_lowRaises (p : Pool) : Ordinary p.lowRaises := by
  intro r hr
  unfold Pool.lowRaises at hr
  split at hr
  · rw [List.mem_singleton.1 hr]; exact nofun
  · exact absurd hr List.not_mem_nil

theorem Ordinary.append {rs qs : List Raise} (h : Ordinary rs) (h' : Ordinary qs) : Ordinary (rs ++ qs) :=
  fun r hr => (List.mem_append.1 hr).elim (h r) (h' r)

/-- What a flow is owed is part of the outstanding reservation (R45). -/
theorem State.owed_le_outstanding (s : State) (f : FlowIx) : (s.flow f).owed ≤ s.outstanding :=
  List.single_le_sum (fun _ _ => Nat.zero_le _) _ (List.mem_map_of_mem (List.mem_finRange f))

/-- The reservation of a matchable flow below its prime depth stands in free buffers (R46). -/
theorem State.PoolLawful.free_pos (h : s.PoolLawful) (hm : (s.flow f).rt.state.matchable = true)
    (hheld : (s.flow f).held < (s.flow f).record.prime) : 1 ≤ s.pool.free := by
  obtain ⟨-, -, hout⟩ := h
  have := s.owed_le_outstanding f
  rw [Flow.owed_of_matchable hm] at this
  omega

/-- A granted request takes a free buffer that no other flow is owed (R48). -/
theorem State.accounts_grant {x : Flow} (hm : (s.flow f).rt.state.matchable = true) (hgrant : s.grants f = true)
    (hheld : x.held = (s.flow f).held + 1) (h : s.PoolLawful) : s.Accounts f x s.pool.granted.free := by
  have hfree : s.pool.granted.free = s.pool.free - 1 := rfl
  obtain hbelow | hshared := (s.grants_iff f).1 hgrant
  · have := h.free_pos hm hbelow
    exact ⟨by omega, .inr (.inl ⟨hm, by omega⟩)⟩
  · exact ⟨by omega, .inr (.inr ⟨by omega, by omega⟩)⟩

theorem State.Keeps.place {w : Window} (hm : (s.flow f).rt.state.matchable = true)
    (hchange : (s.flow f).Change ((s.flow f).placed w)) (hhead : (s.flow f).KeepsHead ((s.flow f).placed w))
    (hgrant : s.PoolLawful → s.grants f = true) : s.Keeps K (s.place f w) := by
  have heq : s.place f w =
      s.becomes f ((s.flow f).placed w) s.pool.granted (s.pool.lowRaises ++ s.wrapRaises f .accepted) := s.place_eq f w
  rw [heq]
  exact State.keeps_becomes hchange (fun _ => hhead) (fun h => State.accounts_grant hm (hgrant h) rfl h)
    (s.pool.ordinary_lowRaises.append (s.ordinary_wrapRaises f .accepted)) (fun _ => rfl) (.inl rfl)

theorem State.Keeps.tryPlace {w : Window} (hm : (s.flow f).rt.state.matchable = true)
    (hchange : (s.flow f).Change ((s.flow f).placed w)) (hhead : (s.flow f).KeepsHead ((s.flow f).placed w)) :
    s.Keeps K (s.tryPlace f w) := by
  unfold State.tryPlace
  split
  · next hgrant => exact (State.Keeps.place hm hchange hhead fun _ => hgrant).trans (.checkPrime _ f)
  · exact .count s f _

/-! ### Starts and jumps (R29, R32) -/

theorem Window.fill_noEntries (h : Half) : ({ head := h, entries := Vector.replicate 32 .empty } : Window).fill = 0 :=
  Window.fill_eq_zero fun k => by rw [Window.entryAt_none]; rfl

/-- The change a start and a jump make: the window flushed, then one block at its head. -/
theorem Flow.change_begun {fl : Flow} {b : Block} (hm : fl.rt.state.matchable = true)
    (hb : b.length = 6 ∨ b.length = 12) :
    fl.Change (fl.emptied .primed) ∧ (fl.emptied .primed).Change ((fl.emptied .primed).placed (.startingAt b)) :=
  ⟨Flow.change_emptied (.inr ⟨rfl, hm⟩) rfl rfl rfl,
    Flow.change_placed_startingAt rfl (fun _ => Window.fill_noEntries _) hb⟩

theorem State.Keeps.start {b : Block} (hstate : (s.flow f).rt.state = .idle ∨ (s.flow f).rt.state = .cut)
    (hb : b.length = 6 ∨ b.length = 12) : s.Keeps K (s.start f b) := by
  have hm : (s.flow f).rt.state.matchable = true := by obtain h | h := hstate <;> rw [h] <;> rfl
  obtain ⟨hflush, hplace⟩ := Flow.change_begun hm hb
  have hturns : s.Turns f ((s.flow f).emptied .primed) ((s.flush f).setRt f .primed) := by
    have heq : (s.flush f).setRt f .primed =
        (s.setFlow f ((s.flow f).emptied .primed)).withPool (s.pool.released (s.flow f).held) := by
      simp [State.flush_eq, State.setRt_eq, Flow.emptied]
    rw [heq]
    exact State.turns_flush (.inr ⟨rfl, hm⟩) rfl rfl rfl
  have hflushed : s.Keeps K ((s.flush f).setRt f .primed) :=
    hturns.keeps (fun _ => Flow.keepsHead_free (.inr rfl)) (fun _ => by obtain h | h := hstate <;> rw [h] <;> rfl)
      (.inl (by obtain h | h := hstate <;> rw [h] <;> rfl))
  have heq : s.start f b = (((s.flush f).setRt f .primed).place f (.startingAt b)).checkPrime f := rfl
  rw [heq]
  generalize (s.flush f).setRt f .primed = t at hturns hflushed
  have hprimed := hturns.flow_self
  have hplaced : t.Keeps K (t.place f (.startingAt b)) := by
    refine State.Keeps.place ?_ ?_ ?_ fun h => ?_
    · rw [hprimed]; rfl
    · rw [hprimed]; exact hplace
    · rw [hprimed]; exact Flow.keepsHead_free (.inr rfl)
    · obtain ⟨⟨-, -, hprime, -⟩, -⟩ := h.1 f
      rw [hprimed] at hprime
      rw [State.grants_iff, hprimed]
      exact .inl hprime
  exact (hflushed.trans hplaced).trans (.checkPrime _ f)

theorem State.Keeps.jump {b : Block} (hm : (s.flow f).rt.state.matchable = true)
    (hdraining : (s.flow f).rt.state.isDraining = false) (hb : b.length = 6 ∨ b.length = 12) :
    s.Keeps K (s.jump f b) := by
  obtain ⟨hflush, hplace⟩ := Flow.change_begun hm hb
  have hchange : (s.flow f).Change ((s.flow f).jumped b) :=
    (hflush.trans hplace).trans (Flow.change_bump (((s.flow f).emptied .primed).placed (.startingAt b)) .jumps)
  have heq : s.jump f b = ((s.jumped f b).settleGroupOf f).checkPrime f := by
    rw [← State.place_jumped]; rfl
  rw [heq]
  refine State.Keeps.trans (State.keeps_becomes_settled hchange (fun _ => Flow.keepsHead_free (.inr rfl)) (fun h => ?_)
    (((Pool.ordinary_lowRaises _).append (s.ordinary_wrapRaises f _)).append (s.ordinary_wrapRaises f _))
    (fun _ => hdraining.symm) rfl) (.checkPrime _ f)
  obtain ⟨⟨-, -, hprime, -⟩, -⟩ := h.1 f
  have hfree : (s.pool.released (s.flow f).held).granted.free = s.pool.free + (s.flow f).held - 1 := by
    rw [← Pool.free_released]; rfl
  have hone : ((s.flow f).jumped b).held = 1 := rfl
  refine ⟨?_, .inr (.inl ⟨hm, by omega⟩)⟩
  by_cases hheld : (s.flow f).held < (s.flow f).record.prime
  · have := h.free_pos hm hheld
    omega
  · omega

/-! ### The classification (R30) -/

theorem Flow.keepsHead_placed_withEntry {fl : Flow} {k : Nat} {b : Block} (hfree : (fl.window.entryAt k).isHeld = false)
    (hspent : ¬ (k = 0 ∧ fl.window.entryAt 0 = .spent)) :
    fl.KeepsHead (fl.placed (fl.window.withEntry k (.held b))) := by
  by_cases hk : k = 0
  · subst hk
    rintro - ⟨hplays, hholds⟩
    refine ⟨fun h => ?_, fun h => absurd ⟨rfl, hholds h⟩ hspent⟩
    obtain ⟨b', hb'⟩ := hplays h
    rw [hb'] at hfree
    exact Bool.noConfusion hfree
  · refine Flow.keepsHead_of_state rfl ?_
    exact (Window.entryAt_withEntry _ _ _ _).trans (if_neg fun h => hk h.2.symm)

theorem State.Keeps.classify {b : Block} (hm : (s.flow f).rt.state.matchable = true)
    (hdraining : (s.flow f).rt.state.isDraining = false) (hempties : ¬ (s.flow f).rt.state.empties)
    (hb : b.length = 6 ∨ b.length = 12) : s.Keeps K (s.classify f b) := by
  unfold State.classify
  dsimp only
  split
  · exact .jump hm hdraining hb
  next =>
  split
  · next hrebase =>
    obtain ⟨hstate, hlow, hhigh⟩ := (rebases_iff _ _).1 hrebase
    exact .tryPlace hm (Flow.change_placed_rebased hstate (by omega) (by omega) hb)
      (Flow.keepsHead_free (.inr hstate))
  next =>
  split
  · exact .count s f _
  next hbehind =>
  split
  · exact .count s f _
  next hspent =>
  split
  · exact .count s f _
  next hbeyond =>
  split
  · exact .count s f _
  next hfree =>
  have hfree := Bool.eq_false_iff.2 hfree
  have hwithin := (liesBeyond_eq_false_iff _ _).1 (Bool.eq_false_iff.2 hbeyond)
  refine .tryPlace hm (Flow.change_placed_withEntry hempties (by omega) hfree hb)
    (Flow.keepsHead_placed_withEntry hfree fun h => hspent ⟨by omega, h.2⟩)

theorem State.Keeps.arrive (s : State) (f : FlowIx) {b : Block} (hb : b.length = 6 ∨ b.length = 12) :
    s.Keeps K (s.arrive f b) := by
  unfold State.arrive
  split
  · next h => exact .start (.inl h) hb
  · next h => exact .start (.inr h) hb
  · next h => exact .classify (by rw [h]; rfl) (by rw [h]; rfl) (by rw [h]; simp [FlowState.empties]) hb
  · next h => exact .classify (by rw [h]; rfl) (by rw [h]; rfl) (by rw [h]; simp [FlowState.empties]) hb
  · next h => exact .classify (by rw [h]; rfl) (by rw [h]; rfl) (by rw [h]; simp [FlowState.empties]) hb
  · next h => exact .classify (by rw [h]; rfl) (by rw [h]; rfl) (by rw [h]; simp [FlowState.empties]) hb
  · exact .refl K s
  · exact .refl K s

theorem sampleBlock_length (bs : List Byte) (mark : Bool) :
    (sampleBlock bs mark).length = 6 ∨ (sampleBlock bs mark).length = 12 := by
  have hlength : (sampleBlock bs mark).length = sampleLength bs := rfl
  rw [hlength, sampleLength]
  split
  · exact .inl rfl
  · exact .inr rfl

theorem State.Keeps.matched (s : State) (f : FlowIx) (bs : List Byte) : s.Keeps K (s.matched f bs) := by
  unfold State.matched
  dsimp only
  split
  · exact .refl K s
  split
  · split
    · exact .arrive s f (sampleBlock_length bs _)
    · split
      · exact .count s f _
      · exact (State.Keeps.count s f _).trans (.arrive _ f (sampleBlock_length bs _))
  · exact .count s f _

end

end Sys2Proof.Machine
end

section
/-! What the ends of playing keep: cuts, stops and drains (R72, R76 to R78), and the answer a drain waits for (R132). -/

namespace Sys2Proof.Machine

/-! ### Groups -/

theorem State.Keeps.setGroup {K : Prop} (s : State) (g : GroupIx) {x : Group} (h : (s.group g).Regroups x) :
    s.Keeps K (s.setGroup g x) := by
  refine ⟨.of_same (fun _ => rfl) rfl, .of_candidates (fun k => ?_) fun _ _ => .inl rfl,
    .of_frame rfl rfl (.inl rfl) (fun _ _ => rfl) id rfl⟩
  rw [State.group_setGroup]
  split
  · next hk => rw [hk]; exact h
  · exact .refl _

/-- Where every RUNNING group has a reference the rule finds nothing to do; the slip debt of a FORMING group is 0 (R82). -/
theorem State.Keeps.settleGroup {K : Prop} (s : State) (g : GroupIx) : s.Keeps K (s.settleGroup g) := by
  unfold State.settleGroup
  split
  · next h =>
    obtain ⟨hrunning, hnone⟩ := h
    refine ⟨.of_same (fun _ => rfl) rfl, ⟨fun hlaw k => ?_, fun hrefs => ?_⟩,
      .of_frame rfl rfl (.inl rfl) (fun _ _ => rfl) id rfl⟩
    · rw [State.group_setGroup]
      split
      · exact (s.group g).lawful_cleared_forming
      · exact hlaw k
    · obtain ⟨f, hf⟩ := ((State.referencesLawful_iff s).1 hrefs g).1 hrunning
      exact absurd hf (List.any_eq_false.1 hnone f (List.mem_finRange f))
  · exact .refl K s

theorem State.Keeps.settleGroupOf {K : Prop} (s : State) (f : FlowIx) : s.Keeps K (s.settleGroupOf f) := by
  unfold State.settleGroupOf
  split
  · exact .settleGroup s _
  · exact .refl K s

/-! ### Cuts and stops -/

theorem FlowState.matchable_of_enabled {x : FlowState} (h : x.enabled = true) : x.matchable = true :=
  x.matchable_iff.2 (.inl h)

theorem FlowState.not_draining_of_enabled {x : FlowState} (h : x.enabled = true) : x.isDraining = false := by
  cases x with
  | draining m => exact Bool.noConfusion h
  | _ => rfl

theorem FlowState.exists_of_isDraining {x : FlowState} (h : x.isDraining = true) : ∃ m, x = .draining m := by
  cases x with
  | draining m => exact ⟨m, rfl⟩
  | _ => exact Bool.noConfusion h

/-- A cut, before its group is settled. -/
theorem State.turns_cut {s : State} {f : FlowIx} (hm : (s.flow f).rt.state.matchable = true) :
    ∃ t, s.Turns f ((s.flow f).emptied (s.flow f).rt.toCut) t ∧ s.cutFlow f = t.settleGroupOf f :=
  ⟨_, (State.turns_flush (.inr ⟨rfl, hm⟩) rfl rfl rfl).raise (r := flowStateRaise f .cut) nofun, s.cutFlow_eq f⟩

theorem State.Keeps.cutFlow {K : Prop} {s : State} {f : FlowIx} (h : (s.flow f).rt.state.enabled = true) :
    s.Keeps K (s.cutFlow f) := by
  obtain ⟨t, ht, heq⟩ := State.turns_cut (FlowState.matchable_of_enabled h)
  rw [heq]
  exact ht.keeps_settled (fun _ => Flow.keepsHead_free (.inl (.inr (.inr rfl))))
    (fun _ => (FlowState.not_draining_of_enabled h).symm) rfl

/-- The entry into DISABLED, or of an enabled flow into IDLE, of a flow that does not drain. -/
theorem State.Keeps.stopFlow {K : Prop} {s : State} {f : FlowIx} {x : FlowState}
    (hstate : x = .disabled ∨ (x = .idle ∧ (s.flow f).rt.state.enabled = true))
    (hdraining : s.DrainLawful → (s.flow f).rt.state.isDraining = false) : s.Keeps K (s.stopFlow f x) := by
  rw [State.stopFlow_eq]
  have hcleared : (Runtime.cleared x).state = x := rfl
  refine (State.turns_flush (r := .cleared x) ?_ rfl rfl rfl).keeps_settled
    (fun _ => Flow.keepsHead_free (.inl ?_)) (fun h => ?_) ?_
  · obtain rfl | ⟨rfl, h⟩ := hstate
    · exact .inl rfl
    · exact .inr ⟨rfl, FlowState.matchable_of_enabled h⟩
  · obtain rfl | ⟨rfl, -⟩ := hstate
    · exact .inl rfl
    · exact .inr (.inl rfl)
  · rw [hdraining h]
    obtain rfl | ⟨rfl, -⟩ := hstate <;> rfl
  · obtain rfl | ⟨rfl, -⟩ := hstate <;> rfl

/-! ### Answers (R126, R130, R132, R134) -/

section
variable {s : State} {c : QueuedCommand} (status : Status) (detail : Byte) (data : List Byte)

/-- The answer of the command in execution takes the place it was owed, and its key in the cache. -/
theorem State.ManagementLawful.answered (h : s.ManagementLawful) (hq : s.mgmt.queue.head? = some c) :
    (s.answered c status detail data).ManagementLawful := by
  obtain ⟨hqueue, hroom, hcache, hkeys⟩ := h
  obtain ⟨qs, hqs⟩ := List.head?_eq_some_iff.1 hq
  have hmgmt : (s.answered c status detail data).mgmt =
      { s.mgmt with
        queue := qs, deferred := none
        cache := (if 4 ≤ s.mgmt.cache.length then s.mgmt.cache.drop 1 else s.mgmt.cache) ++
          [{ dest := c.origin, tag := c.tag, code := c.code, status := status, detail := detail, data := data }] } := by
    simp only [State.answered, State.mgmt_withMgmt, hqs, List.drop_one, List.tail_cons]
  have hanswers : (s.answered c status detail data).ring.answers.length = s.ring.answers.length + 1 := by
    simp [State.answered]
  rw [hqs, List.length_cons] at hqueue hroom
  have hsub : (if 4 ≤ s.mgmt.cache.length then s.mgmt.cache.drop 1 else s.mgmt.cache).Sublist s.mgmt.cache := by
    split
    · exact List.drop_sublist 1 _
    · exact List.Sublist.refl _
  have hlength : (if 4 ≤ s.mgmt.cache.length then s.mgmt.cache.drop 1 else s.mgmt.cache).length ≤ 3 := by
    split
    · rw [List.length_drop]; omega
    · omega
  rw [State.ManagementLawful, hmgmt, hanswers]
  refine ⟨by dsimp only; omega, by dsimp only; omega, by rw [List.length_append, List.length_singleton]; omega, ?_⟩
  rw [Mgmt.keys, hqs, List.map_cons, List.cons_append] at hkeys
  rw [Mgmt.keys, List.map_append, ← List.append_assoc]
  refine (List.perm_append_singleton _ _).nodup_iff.2 (hkeys.sublist ?_)
  exact ((List.Sublist.refl _).append (hsub.map _)).cons_cons _

/-- Answering the command in execution, where no drain waits for it. -/
theorem State.Keeps.answered {K : Prop} (hq : s.mgmt.queue.head? = some c) (hd : s.mgmt.deferred = none) :
    s.Keeps K (s.answered c status detail data) := by
  refine ⟨.of_same (fun _ => rfl) rfl, .of_same (fun _ => rfl) fun _ => ⟨rfl, rfl⟩,
    fun h => h.answered status detail data hq, fun _ => id, fun h => ?_, id, rfl⟩
  obtain ⟨hdrains, -⟩ := h
  refine ⟨fun f => ?_, fun f hf => Option.noConfusion rfl (heq_of_eq hf)⟩
  rw [State.flow_answered, hdrains f, hd]
  rfl

end

/-! ### The end of a drain (R77) -/

/-- The end of a drain whose DRAINING flow may have counted its last block just before. -/
theorem State.Keeps.endDrain {K : Prop} {s : State} {f : FlowIx} (h : (s.flow f).rt.state.isDraining = true)
    (forced : Bool) : s.Keeps K (s.endDrain f forced) := by
  have hflow := s.flow_endDrain f forced
  have hplays : (s.flow f).rt.state.playsOrHolds = false := by
    obtain ⟨m, hm⟩ := FlowState.exists_of_isDraining h
    exact FlowState.playsOrHolds_of_draining hm
  have hcases := State.answerDrain_cases ((s.setFlow f ((s.flow f).emptied (.cleared .disabled))).withPool
    (s.pool.released (s.flow f).held)) f forced
  rw [← State.endDrain_eq_answerDrain] at hcases
  have hpool : (s.endDrain f forced).pool = s.pool.released (s.flow f).held := by
    obtain heq | ⟨c, -, -, heq⟩ := hcases <;> rw [heq] <;> rfl
  have hgroup (g : GroupIx) : (s.endDrain f forced).group g = s.group g := by
    obtain heq | ⟨c, -, -, heq⟩ := hcases <;> rw [heq] <;> rfl
  refine ⟨.of_change hflow (Flow.change_emptied (.inl rfl) rfl rfl rfl) (fun _ => Flow.keepsHead_free (.inl (.inl rfl)))
      fun hp => ?_, .of_same hgroup fun y => ?_, fun hm => ?_, fun _ hc => ?_, fun hd => ?_, fun hn => ?_, ?_⟩
  · rw [hpool]
    exact State.Turns.accounts (fun _ => Nat.zero_add _) hp
  · rw [hflow y]
    split
    · next hy => rw [hy, hplays]; exact ⟨rfl, rfl⟩
    · exact ⟨rfl, rfl⟩
  · obtain heq | ⟨c, -, hq, heq⟩ := hcases <;> rw [heq]
    · exact hm
    · exact State.ManagementLawful.answered .done _ [] hm hq
  · rw [State.claim_endDrain]; exact hc
  · obtain ⟨hdrains, hwaits⟩ := hd
    have hdeferred := (hdrains f).1 h
    obtain ⟨-, c, hq, -⟩ := hwaits f hdeferred
    have hmgmt : (s.endDrain f forced).mgmt.deferred = none := by rw [State.endDrain_eq s f forced hdeferred hq]; rfl
    refine ⟨fun y => ?_, fun y hy => ?_⟩
    · rw [hmgmt, hflow y]
      refine ⟨fun hy => ?_, fun hy => Option.noConfusion rfl (heq_of_eq hy)⟩
      split at hy
      · exact Bool.noConfusion hy
      · next hne =>
        rw [hdrains y, hdeferred] at hy
        exact absurd (Option.some.inj hy).symm hne
    · rw [hmgmt] at hy
      exact Option.noConfusion rfl (heq_of_eq hy)
  · obtain heq | ⟨c, -, -, heq⟩ := hcases <;> rw [heq] <;> exact hn
  · obtain heq | ⟨c, -, -, heq⟩ := hcases <;> rw [heq] <;> rfl

theorem State.Keeps.endDrains {K : Prop} (s : State) : s.Keeps K s.endDrains := by
  have hfold (l : List FlowIx) (hl : l.Nodup) (t : State) (ht : ∀ f ∈ l, (t.flow f).rt.state.isDraining = true) :
      t.Keeps K (l.foldl (fun s f => s.endDrain f false) t) := by
    induction l generalizing t with
    | nil => exact .refl K t
    | cons f l ih =>
      rw [List.nodup_cons] at hl
      refine (State.Keeps.endDrain (ht f (by simp)) false).trans (ih hl.2 _ fun y hy => ?_)
      rw [State.flow_endDrain, if_neg fun h : y = f => hl.1 (h ▸ hy)]
      exact ht y (by simp [hy])
  rw [State.endDrains_eq]
  exact hfold _ (nodup_allFlows.filter _) s fun f hf => (s.mem_drainingFlows_iff f).1 hf

theorem State.Keeps.drainBoundary {K : Prop} {s : State} {f : FlowIx} {m : DrainMode}
    (h : (s.flow f).rt.state.isDraining = true) : s.Keeps K (s.drainBoundary f m) := by
  cases m with
  | playing =>
    refine (State.Keeps.count s f .played).trans (.endDrain ?_ false)
    rw [(s.turns_count f .played).flow_self]
    exact h
  | holding => exact .endDrain h false

/-! ### The start of a drain (R76) -/

/-- A flow begins to drain as it plays or holds. -/
def DrainMode.state : DrainMode → FlowState
  | .playing => .playing
  | .holding => .holding

section
variable {fl : Flow} {m : DrainMode} (hstate : fl.rt.state = m.state)
include hstate

theorem Flow.change_toDraining : fl.Change { fl with rt := fl.rt.toDraining m } := by
  have hpresents : fl.rt.state.presenting = true := by rw [hstate]; cases m <;> rfl
  refine Flow.change_rt (fun _ => by rw [hstate]; cases m <;> rfl) ?_ (fun _ => .inr (.inr rfl)) (fun h => h.2.1)
    (fun h _ => h.2.2.1 hpresents) (fun _ h => Bool.noConfusion h)
  rintro (h | h | h) <;> exact FlowState.noConfusion h

theorem Flow.keepsHead_toDraining : fl.KeepsHead { fl with rt := fl.rt.toDraining m } := by
  rintro - ⟨hplays, hholds⟩
  cases m with
  | playing => simpa [Flow.HeadLawful, Runtime.toDraining] using hplays (.inr (.inl hstate))
  | holding => simpa [Flow.HeadLawful, Runtime.toDraining] using hholds (.inl hstate)

end

theorem State.Keeps.startDrain {K : Prop} {s : State} {f : FlowIx} {m : DrainMode} {c : QueuedCommand}
    (hstate : (s.flow f).rt.state = m.state) (hlane : s.lane.status = .present) (hd : s.mgmt.deferred = none)
    (hq : s.mgmt.queue.head? = some c) (hcode : c.code = 0x05) (hlength : c.length = 1)
    (hparam : (byteAt c.params 0).toNat = f.val) : s.Keeps K (s.startDrain f m) := by
  have heq : s.startDrain f m = ((s.setFlow f
    { s.flow f with rt := (s.flow f).rt.toDraining m }).settleGroupOf f).withMgmt
      { s.mgmt with deferred := some f } := by
    unfold State.startDrain
    rw [State.setRt_eq]
    dsimp only
    rw [State.mgmt_settleGroupOf, State.mgmt_setFlow]
  have hflow (y : FlowIx) : (s.startDrain f m).flow y =
      if y = f then { s.flow f with rt := (s.flow f).rt.toDraining m } else s.flow y := by
    rw [heq, State.flow_withMgmt, State.flow_settleGroupOf, State.flow_setFlow]
  have hmgmt : (s.startDrain f m).mgmt = { s.mgmt with deferred := some f } := by rw [heq]; rfl
  have hring : (s.startDrain f m).ring = s.ring := by
    rw [heq, State.ring_withMgmt, State.ring_settleGroupOf, State.ring_setFlow]
  have hpool : (s.startDrain f m).pool = s.pool := by
    rw [heq, State.pool_withMgmt, State.pool_settleGroupOf, State.pool_setFlow]
  have hself : (s.startDrain f m).flow f = { s.flow f with rt := (s.flow f).rt.toDraining m } :=
    (hflow f).trans (if_pos rfl)
  refine ⟨.of_change hflow (Flow.change_toDraining hstate) (fun _ => Flow.keepsHead_toDraining hstate) fun _ => ?_,
    .of_loss (f := f) ?_ (fun y hy => (hflow y).trans (if_neg hy)) (by rw [hself]; rfl),
    fun h => ?_, fun _ h => by rw [hmgmt]; exact h, fun h => ?_, fun h => ?_, ?_⟩
  · rw [hpool]
    exact ⟨rfl, .inl (Nat.le_refl _)⟩
  · rw [heq]
    exact s.groupsAfterLoss_settle _ f (fun _ => rfl) (fun y hy => State.flow_setFlow_ne s _ hy)
      (by rw [State.flow_setFlow_self]) (by rw [State.flow_setFlow_self]; rfl)
  · rw [State.ManagementLawful, hmgmt, hring]
    exact h
  · obtain ⟨hdrains, -⟩ := h
    refine ⟨fun y => ?_, fun y hy => ?_⟩
    · rw [hflow y, hmgmt]
      split
      · next hy => exact ⟨fun _ => by rw [hy], fun _ => rfl⟩
      · next hy =>
        rw [hdrains y, hd]
        exact ⟨fun h => Option.noConfusion rfl (heq_of_eq h), fun h => absurd (Option.some.inj h).symm hy⟩
    · rw [hmgmt] at hy ⊢
      obtain rfl := Option.some.inj hy
      refine ⟨?_, c, hq, hcode, hlength, hparam⟩
      rw [heq, State.lane_withMgmt, State.lane_settleGroupOf, State.lane_setFlow, hlane]
  · rw [heq, State.notice_withMgmt, State.notice_settleGroupOf, State.notice_setFlow]
    exact h
  · rw [heq, State.pending_withMgmt, State.pending_settleGroupOf, State.pending_setFlow]

end Sys2Proof.Machine
end

section
/-! What the block boundary of a flow in PLAYING or HOLDING keeps (R65 to R71), and the aligned joins and the
resynchronisation of its group (R86 to R89). -/

namespace Sys2Proof.Machine

/-! ### Several changes of one flow -/

section
variable {s t : State} {f : FlowIx} {x y : Flow}

/-- A further change of the flow that moves no buffer. -/
theorem State.Turns.setFlow (h : s.Turns f x t) (hchange : (s.flow f).Change y) (hheld : y.held = x.held) :
    s.Turns f y (t.setFlow f y) := by
  obtain ⟨back, rs, rfl, hrs, -, hconserves⟩ := h
  refine ⟨back, rs, ?_, hrs, hchange, fun hlaw => by rw [hheld]; exact hconserves hlaw⟩
  rw [State.becomes, State.becomes]
  simp

theorem State.Turns.setRt (h : s.Turns f x t) {r : Runtime} (hchange : (s.flow f).Change { x with rt := r }) :
    s.Turns f { x with rt := r } (t.setRt f r) := by
  rw [State.setRt_eq, h.flow_self]
  exact h.setFlow hchange rfl

theorem State.Turns.count (h : s.Turns f x t) (c : Counter) : s.Turns f (x.bump c) (t.count f c) := by
  have hcount := t.turns_count f c
  rw [h.flow_self] at hcount
  exact h.trans hcount

theorem State.Turns.advance (h : s.Turns f x t) : s.Turns f x.advanced (t.advance f) := by
  have hadvance := t.turns_advance f
  rw [h.flow_self] at hadvance
  exact h.trans hadvance

theorem State.Turns.concealNext (h : s.Turns f x t) (k : Nat) (hm : x.rt.state.matchable = true) :
    s.Turns f (x.concealed k) (t.concealNext f k) := by
  have hconceal := t.turns_concealNext (f := f) k (by rw [h.flow_self]; exact hm)
  rw [h.flow_self] at hconceal
  exact h.trans hconceal

theorem State.Turns.cut (h : s.Turns f x t) (hm : x.rt.state.matchable = true) :
    ∃ u, s.Turns f (x.emptied x.rt.toCut) u ∧ t.cutFlow f = u.settleGroupOf f := by
  obtain ⟨u, hu, heq⟩ := State.turns_cut (s := t) (f := f) (by rw [h.flow_self]; exact hm)
  rw [h.flow_self] at hu
  exact ⟨u, h.trans hu, heq⟩

theorem State.Turns.countTimes (h : s.Turns f x t) (c : Counter) (n : Nat) :
    s.Turns f ((Flow.bump · c)^[n] x) (t.countTimes f c n) := by
  induction n generalizing t x with
  | zero => exact h
  | succ n ih =>
    rw [Function.iterate_succ_apply]
    exact ih (h.count c)

theorem State.Turns.group (h : s.Turns f x t) (g : GroupIx) : t.group g = s.group g := by
  obtain ⟨back, rs, rfl, -⟩ := h
  rfl

end

/-! ### What a flow's own decision makes of it (R65, R68) -/

/-- The flow's own decision makes `x` of it and leaves the unit as `u`; where the flow is cut, its group is settled. -/
structure State.Decides (s : State) (f : FlowIx) (x : Flow) (u : State) : Prop where
  turns : s.Turns f x u
  head : (s.flow f).KeepsHead x
  enabled : x.rt.state.enabled = true
  readIndex : x.rt.readIndex = 0
  own : s.ownBoundary f = u ∨ (x.rt.state.playsOrHolds = false ∧ s.ownBoundary f = u.settleGroupOf f)

section
variable {s : State} {f : FlowIx}

theorem State.turns_finishBlock (s : State) (f : FlowIx) :
    ∃ x, s.Turns f x (s.finishBlock f) ∧ x.rt.state = (s.flow f).rt.state ∧
      ((s.flow f).Lawful → x.window.NoSpent) := by
  have hkept : ∃ r : Runtime, (s.flow f).Change { s.flow f with rt := r } ∧ r.state = (s.flow f).rt.state ∧
      s.finishBlock f = ((s.setRt f r).count f .played).advance f := by
    unfold State.finishBlock
    dsimp only
    split
    · next b hb => exact ⟨_, Flow.change_lastFrame _ hb, rfl, rfl⟩
    · exact ⟨_, .refl _, rfl, rfl⟩
  obtain ⟨r, hchange, hstate, heq⟩ := hkept
  refine ⟨(({ s.flow f with rt := r } : Flow).bump .played).advanced, ?_, hstate, fun h => h.noSpent_advanced _⟩
  rw [heq, State.setRt_eq]
  exact ((State.turns_setFlow hchange rfl).count .played).advance

theorem State.decides_playing (h : (s.flow f).rt.state = .playing) : ∃ x u, s.Decides f x u := by
  obtain ⟨x, hx, hstate, hspent⟩ := s.turns_finishBlock f
  have hm : x.rt.state.matchable = true := by rw [hstate, h]; rfl
  have hown := State.ownBoundary_playing h
  unfold State.playingBoundary at hown
  dsimp only at hown
  split at hown
  · next b hb =>
    rw [hx.flow_self] at hb hown
    refine ⟨_, _, hx.setRt (r := { x.rt with readIndex := 0, blockLen := some b.length }) ?_,
      Flow.keepsHead_playing (hstate.trans h) hb, ?_, rfl, .inl hown⟩
    · exact hx.change.playing (hstate.trans h) rfl rfl rfl hm hspent fun hr => hr.head hb
    · exact (congrArg _ (hstate.trans h)).trans rfl
  · exact ⟨_, _, (hx.concealNext 1 hm).raise (r := flowStateRaise f .holding) nofun, Flow.keepsHead_concealed _ _ 1,
      rfl, rfl, .inl hown⟩

/-- A flow that leaves HOLDING by REPRIME with as many blocks as it needs to prime is READY at once (R69). -/
theorem State.decides_holding (h : (s.flow f).rt.state = .holding) : ∃ x u, s.Decides f x u := by
  have hx := s.turns_advance f
  have hspent (hlaw : (s.flow f).Lawful) : (s.flow f).advanced.window.NoSpent := hlaw.noSpent_advanced _
  have hm : (s.flow f).advanced.rt.state.matchable = true := (congrArg FlowState.matchable h).trans rfl
  have hown := State.ownBoundary_holding h
  unfold State.holdingBoundary at hown
  dsimp only at hown
  split at hown
  · next b hb =>
    rw [hx.flow_self] at hb
    split at hown
    · rw [hx.flow_self] at hown
      exact ⟨_, _, (hx.setRt (hx.change.playing
        (r := (s.flow f).advanced.rt.toPlaying b.length) rfl rfl rfl rfl hm hspent
        fun hr => hr.head hb)).raise (r := flowStateRaise f .playing) nofun, Flow.keepsHead_playing rfl hb, rfl, rfl,
        .inl hown⟩
    · split at hown
      · exact ⟨_, _, (hx.count .holdDiscards).concealNext _ hm, Flow.keepsHead_concealed _ _ _, rfl, rfl, .inl hown⟩
      · rw [hx.flow_self] at hown
        have hprimes := hx.setRt (hx.change.waiting (r := (s.flow f).advanced.rt.repriming)
          (.inl rfl) rfl rfl nofun hm hspent)
        rw [hprimes.flow_self] at hown
        split at hown
        · next hprime =>
          have hready := hprimes.setRt (r := (s.flow f).advanced.rt.repriming.toReady)
            (hx.change.waiting (r := (s.flow f).advanced.rt.repriming.toReady) (.inr rfl) rfl rfl nofun hm hspent)
          exact ⟨_, _, hready, Flow.keepsHead_ready rfl (fun _ => hprime) (.inl rfl), rfl, rfl, .inl hown⟩
        · exact ⟨_, _, hprimes, Flow.keepsHead_free (.inr rfl), rfl, rfl, .inl hown⟩
  · split at hown
    · exact ⟨_, _, hx.concealNext _ hm, Flow.keepsHead_concealed _ _ _, rfl, rfl, .inl hown⟩
    · obtain ⟨u, hu, heq⟩ := hx.cut hm
      exact ⟨_, u, hu, Flow.keepsHead_free (.inl (.inr (.inr rfl))), rfl, rfl, .inr ⟨rfl, hown.trans heq⟩⟩

end

/-! ### A join (R39, R89) -/

section
variable {s : State} {f : FlowIx}

theorem Window.entryAt_joined_ne {w : Window} {depth : Nat} {h : Half} {k : Nat}
    (hne : (w.joined depth h).entryAt k ≠ .empty) :
    k < depth ∧ ∃ j b, w.entryAt j = .held b ∧ (w.joined depth h).entryAt k = .held b := by
  by_cases hk : k < 32
  · rw [Window.entryAt_joined _ _ _ hk] at hne ⊢
    split at hne
    · next hin =>
      rw [if_pos hin]
      cases he : w.entryAt ((k : Int) + seqOffset h w.head).toNat with
      | held b => exact ⟨hin.1, _, b, he, rfl⟩
      | empty => rw [he] at hne; exact absurd rfl hne
      | spent => rw [he] at hne; exact absurd rfl hne
    · exact absurd rfl hne
  · exact absurd (Window.entryAt_of_ge _ (Nat.le_of_not_lt hk)) hne

theorem Window.noSpent_joined (w : Window) (depth : Nat) (h : Half) : (w.joined depth h).NoSpent := by
  intro k hk
  obtain ⟨-, j, b, -, hb⟩ := Window.entryAt_joined_ne (w := w) (depth := depth) (h := h) (k := k)
    (by rw [hk]; exact nofun)
  rw [hk] at hb
  exact Entry.noConfusion hb

/-- The blocks a re-base keeps are those its held count keeps. -/
theorem Flow.change_joined (fl : Flow) (h : Half) {n : Nat}
    (hn : n = fl.window.leftBehind (seqOffset h fl.window.head) +
      fl.window.pushedPast fl.record.depth (seqOffset h fl.window.head)) :
    fl.Change { fl with window := fl.window.joined fl.record.depth h, held := fl.held - n } where
  record := rfl
  matchable := id
  lawful hlaw := by
    obtain ⟨⟨hmin, hmax, hprime⟩, hbeyond, hheld, hempty, -⟩ := hlaw
    have hfill := fl.window.fill_joined_add fl.record.depth h hmax (by omega)
    refine ⟨⟨hmin, hmax, hprime⟩, fun k hk => by_contra fun hne => ?_, ?_, fun hs k => by_contra fun hne => ?_,
      fun k hk => absurd hk (Window.noSpent_joined _ _ _ k)⟩
    · exact absurd (Window.entryAt_joined_ne hne).1 (Nat.not_lt.2 hk)
    · change fl.held - n = (fl.window.joined fl.record.depth h).fill
      omega
    · obtain ⟨-, j, b, hj, -⟩ := Window.entryAt_joined_ne hne
      rw [hempty hs j] at hj
      exact Entry.noConfusion hj
  reads hr := by
    refine ⟨fun k b hk => ?_, hr.2.1, hr.2.2.1, hr.2.2.2⟩
    have hk : (fl.window.joined fl.record.depth h).entryAt k = .held b := hk
    obtain ⟨-, j, b', hj, hb'⟩ := Window.entryAt_joined_ne (w := fl.window) (by rw [hk]; exact nofun)
    rw [hk] at hb'
    exact hr.head (hj.trans hb'.symm)

theorem State.turns_rebaseTo (s : State) (h : Half) (f : FlowIx) :
    s.Turns f ((s.flow f).rebasedTo h) (s.rebaseTo h f) := by
  unfold State.rebaseTo Flow.rebasedTo
  dsimp only
  refine State.Turns.countTimes (State.Turns.countTimes ?_ .late _) .beyond _
  rw [State.giveBack_eq, State.setWindow_eq, State.flow_setFlow_self, State.setFlow_setFlow]
  refine ⟨_, [], rfl, nofun, (s.flow f).change_joined h rfl, fun hlaw => ?_⟩
  obtain ⟨⟨hmin, hmax, -⟩, -, hheld, -⟩ := hlaw
  have hfill := (s.flow f).window.fill_joined_add (s.flow f).record.depth h hmax (by omega)
  dsimp only
  omega

/-- A flow that joins plays its head, or conceals it. -/
theorem State.turns_join (h : Half) (hm : (s.flow f).rt.state.matchable = true) :
    ∃ x, s.Turns f x (s.join h f) ∧ (s.flow f).KeepsHead x ∧ x.rt.state.playsOrHolds = true ∧ x.rt.readIndex = 0 := by
  have hx := s.turns_rebaseTo h f
  have hm' : ((s.flow f).rebasedTo h).rt.state.matchable = true := by rw [Flow.rt_rebasedTo, hm]
  have hspent (_ : (s.flow f).Lawful) : ((s.flow f).rebasedTo h).window.NoSpent := by
    rw [Flow.window_rebasedTo]
    exact Window.noSpent_joined _ _ _
  rw [State.join_eq_beginAtHead]
  unfold State.beginAtHead
  split
  · next b hb =>
    rw [hx.flow_self] at hb ⊢
    exact ⟨_, (hx.setRt (hx.change.playing
      (r := ((s.flow f).rebasedTo h).rt.toPlaying b.length) rfl rfl rfl rfl hm' hspent
      fun hr => hr.head hb)).raise (r := flowStateRaise f .playing) nofun, Flow.keepsHead_playing rfl hb, rfl, rfl⟩
  · exact ⟨_, (hx.concealNext 1 hm').raise (r := flowStateRaise f .holding) nofun, Flow.keepsHead_concealed _ _ 1,
      rfl, rfl⟩

end

end Sys2Proof.Machine
end

section
/-! What a block boundary keeps, its group's part included (R86 to R89), and that it leaves no boundary due (R63). -/

namespace Sys2Proof.Machine

/-- Every flow is as before, or its read index is 0. -/
def State.Resets (s t : State) : Prop := ∀ y, t.flow y = s.flow y ∨ (t.flow y).rt.readIndex = 0

theorem State.Resets.trans {s t u : State} (h : s.Resets t) (h' : t.Resets u) : s.Resets u := by
  intro y
  obtain hsame | hzero := h' y
  · rw [hsame]; exact h y
  · exact .inr hzero

theorem State.Resets.readIndex {s t : State} (h : s.Resets t) {f : FlowIx} (hzero : (s.flow f).rt.readIndex = 0) :
    (t.flow f).rt.readIndex = 0 := by
  obtain hsame | hzero' := h f
  · rw [hsame, hzero]
  · exact hzero'

theorem State.resets_of_flows {s t : State} (h : ∀ y, t.flow y = s.flow y) : s.Resets t := fun y => .inl (h y)

theorem State.Turns.resets {s t : State} {f : FlowIx} {x : Flow} (h : s.Turns f x t) (hread : x.rt.readIndex = 0) :
    s.Resets t := by
  intro y
  rw [h.flow y]
  split
  · exact .inr hread
  · exact .inl rfl

/-! ### The resynchronisation (R88) -/

section
variable {K : Prop} {s : State} {g : GroupIx}

theorem State.mem_timedMembers_iff (s : State) (g : GroupIx) (f : FlowIx) :
    f ∈ s.timedMembers g ↔ (s.flow f).record.group = some g ∧ (s.flow f).rt.state.timed = true := by
  rw [State.timedMembers, List.mem_filter, State.mem_members_iff]
  exact ⟨fun ⟨⟨hg, _⟩, ht⟩ => ⟨hg, ht⟩, fun ⟨hg, ht⟩ => ⟨⟨hg, FlowState.enabled_of_timed _ ht⟩, ht⟩⟩

theorem State.turns_flushToIdle {f : FlowIx} (hm : (s.flow f).rt.state.matchable = true) :
    s.Turns f ((s.flow f).emptied (.cleared .idle)) (s.flushToIdle f) := by
  rw [State.flushToIdle_eq]
  exact State.turns_flush (.inr ⟨rfl, hm⟩) rfl rfl rfl

/-- A resynchronisation before its group is set: its members stay enabled. -/
theorem State.keeps_foldl_flushToIdle {l : List FlowIx} (hl : ∀ f ∈ l, (s.flow f).rt.state.enabled = true) :
    s.KeepsFlows (l.foldl State.flushToIdle s) ∧ s.KeepsControl K (l.foldl State.flushToIdle s) := by
  have hfold : (s.KeepsFlows (l.foldl State.flushToIdle s) ∧ s.KeepsControl K (l.foldl State.flushToIdle s)) ∧
      ∀ f ∈ l, ((l.foldl State.flushToIdle s).flow f).rt.state.enabled = true := by
    refine List.foldlRecOn (motive := fun t => (s.KeepsFlows t ∧ s.KeepsControl K t) ∧
      ∀ f ∈ l, (t.flow f).rt.state.enabled = true) l State.flushToIdle
      ⟨⟨(State.Keeps.refl K s).flows, (State.Keeps.refl K s).control⟩, hl⟩ ?_
    rintro t ⟨⟨hflows, hcontrol⟩, henabled⟩ f hf
    have hturns := State.turns_flushToIdle (FlowState.matchable_of_enabled (henabled f hf))
    refine ⟨⟨hflows.trans hcontrol (hturns.keepsFlows fun _ => Flow.keepsHead_free (.inl (.inr (.inl rfl)))),
      hcontrol.trans (hturns.keepsControl fun _ => (FlowState.not_draining_of_enabled (henabled f hf)).symm)⟩,
      fun y hy => ?_⟩
    rw [hturns.flow y]
    split
    · rfl
    · exact henabled y hy
  exact hfold.1

theorem State.Keeps.resync (s : State) (g : GroupIx) : s.Keeps K (s.resync g) := by
  obtain ⟨hflows, hcontrol⟩ := State.keeps_foldl_flushToIdle (K := K) (s := s) (l := s.timedMembers g) fun f hf =>
    FlowState.enabled_of_timed _ ((s.mem_timedMembers_iff g f).1 hf).2
  have hsame (u : State) : u.KeepsFlows ((u.setGroup g ((s.group g).cleared .forming)).withNotice
      (u.notice.take { kind := .groupResync, subject := .group g, detail := 0, dest := none })) ∧
      u.KeepsControl K ((u.setGroup g ((s.group g).cleared .forming)).withNotice
        (u.notice.take { kind := .groupResync, subject := .group g, detail := 0, dest := none })) :=
    ⟨.of_same (fun _ => rfl) rfl, .of_frame rfl rfl (.inl rfl) (fun _ _ => rfl) (fun h => h.take nofun) rfl⟩
  have hnotice := State.foldl_keeps State.notice State.notice_flushToIdle (s.timedMembers g) s
  have heq := s.resync_eq g
  rw [← hnotice] at heq
  refine ⟨?_, ⟨fun h k => ?_, fun h => ?_⟩, ?_⟩
  · rw [heq]; exact hflows.trans hcontrol (hsame _).1
  · rw [State.group_resync]
    split
    · exact (s.group g).lawful_cleared_forming
    · exact h k
  · rw [State.referencesLawful_iff] at h ⊢
    intro k
    rw [State.group_resync]
    split
    · next hk =>
      subst hk
      refine ⟨fun hforming => GroupState.noConfusion hforming, fun ⟨f, hf⟩ => ?_⟩
      obtain ⟨hgroup, hplays⟩ := (State.candidate_iff _ k f).1 hf
      rw [State.flow_resync] at hgroup hplays
      split at hplays
      · obtain hp | hp := hplays <;> exact FlowState.noConfusion hp
      · next hout =>
        rw [if_neg hout] at hgroup
        refine absurd ((s.mem_timedMembers_iff k f).2 ⟨hgroup, ?_⟩) hout
        obtain hp | hp := hplays <;> rw [hp] <;> rfl
    · next hk =>
      have hcandidate (f : FlowIx) : (s.resync g).candidate k f = s.candidate k f := by
        rw [Bool.eq_iff_iff, State.candidate_iff, State.candidate_iff, State.flow_resync]
        split
        · next hin =>
          have hother : (s.flow f).record.group ≠ some k := fun h =>
            hk (Option.some.inj (h.symm.trans ((s.mem_timedMembers_iff g f).1 hin).1))
          exact ⟨fun h => absurd h.1 hother, fun h => absurd h.1 hother⟩
        · exact Iff.rfl
      rw [h k]
      exact exists_congr fun f => by rw [hcandidate f]
  · rw [heq]; exact hcontrol.trans (hsame _).2

theorem State.resets_resync (s : State) (g : GroupIx) : s.Resets (s.resync g) := by
  intro y
  rw [State.flow_resync]
  split
  · exact .inr rfl
  · exact .inl rfl

end

/-! ### Joins and the reference's steps (R86, R87, R89) -/

section
variable {K : Prop} {s : State} {g : GroupIx}

theorem State.Keeps.orderTaken {α : Type} (s : State) (l : List α) : s.Keeps K (s.orderTaken l) := by
  rw [State.orderTaken_eq]
  exact .of_quiet rfl rfl rfl rfl rfl (.inl rfl) id rfl

/-- The members stay in their group, which is RUNNING, so that each joins a RUNNING group. -/
theorem State.keeps_joinAll (hrunning : (s.group g).state = .running) (h : Half) :
    s.Keeps K (s.joinAll g h) ∧ s.Resets (s.joinAll g h) := by
  have hmembers (f : FlowIx) (hf : f ∈ s.openOrder (s.readyMembers g)) :
      (s.flow f).rt.state.enabled = true ∧ (s.flow f).record.group = some g := by
    obtain ⟨hgroup, hready⟩ := (s.mem_readyMembers_iff g f).1 ((s.perm_openOrder _).mem_iff.1 hf)
    exact ⟨by rw [hready]; rfl, hgroup⟩
  have hfold : (s.Keeps K (s.joinAll g h) ∧ s.Resets (s.joinAll g h)) ∧ ((s.joinAll g h).group g).state = .running ∧
      ∀ f ∈ s.openOrder (s.readyMembers g), ((s.joinAll g h).flow f).rt.state.enabled = true ∧
        ((s.joinAll g h).flow f).record.group = some g := by
    rw [State.joinAll_eq]
    refine List.foldlRecOn (motive := fun t => (s.Keeps K t ∧ s.Resets t) ∧ (t.group g).state = .running ∧
      ∀ f ∈ s.openOrder (s.readyMembers g), (t.flow f).rt.state.enabled = true ∧ (t.flow f).record.group = some g)
      (s.openOrder (s.readyMembers g)) (State.join · h) ⟨⟨.orderTaken s _, ?_⟩, ?_⟩ ?_
    · rw [State.orderTaken_eq]; exact State.resets_of_flows fun _ => rfl
    · rw [State.orderTaken_eq]; exact ⟨hrunning, hmembers⟩
    rintro t ⟨⟨hkeeps, hresets⟩, hrunning, hmembers⟩ f hf
    obtain ⟨henabled, hgroup⟩ := hmembers f hf
    obtain ⟨x, hx, hhead, hplays, hread⟩ := State.turns_join (s := t) (f := f) h
      (FlowState.matchable_of_enabled henabled)
    have hx_enabled : x.rt.state.enabled = true := by
      obtain hp | hp := (FlowState.playsOrHolds_iff _).1 hplays <;> rw [hp] <;> rfl
    refine ⟨⟨hkeeps.trans (hx.keeps (fun _ => hhead) (fun _ => ?_) (.inr ⟨hplays, fun k hk => ?_⟩)),
      hresets.trans (hx.resets hread)⟩, by rw [hx.group, hrunning], fun y hy => ?_⟩
    · rw [FlowState.not_draining_of_enabled hx_enabled, FlowState.not_draining_of_enabled henabled]
    · rw [← Option.some.inj (hgroup.symm.trans hk), hrunning]
    · rw [hx.flow y]
      split
      · exact ⟨hx_enabled, by rw [hx.change.record, hgroup]⟩
      · exact hmembers y hy
  exact hfold.1

theorem Group.regroups_of_running {gr x : Group} (hstate : x.state = gr.state) (hrunning : gr.state = .running)
    (hdebt : gr.Lawful → -8 ≤ x.debt ∧ x.debt ≤ 8) : gr.Regroups x := by
  refine ⟨hstate, fun h => ⟨(hdebt h).1, (hdebt h).2, fun hforming => ?_⟩⟩
  rw [hstate, hrunning] at hforming
  exact GroupState.noConfusion hforming

theorem State.keeps_setGroup_joinAll {x : Group} (hregroups : (s.group g).Regroups x)
    (hrunning : (s.group g).state = .running)
    (h : Half) : s.Keeps K ((s.setGroup g x).joinAll g h) ∧ s.Resets ((s.setGroup g x).joinAll g h) := by
  have hrunning' : ((s.setGroup g x).group g).state = .running := by
    rw [State.group_setGroup, if_pos rfl, hregroups.1, hrunning]
  obtain ⟨hkeeps, hresets⟩ := State.keeps_joinAll (K := K) hrunning' h
  exact ⟨(State.Keeps.setGroup s g hregroups).trans hkeeps, hresets⟩

theorem State.keeps_referenceSteps (hrunning : (s.group g).state = .running) (f : FlowIx) :
    s.Keeps K (s.referenceSteps g f) ∧ s.Resets (s.referenceSteps g f) := by
  unfold State.referenceSteps
  dsimp only
  split
  · split
    · exact ⟨.resync s g, s.resets_resync g⟩
    · next hin =>
      refine State.keeps_setGroup_joinAll (Group.regroups_of_running ?_ hrunning fun _ => ?_) hrunning _
      · rfl
      · dsimp only; omega
  · refine State.keeps_setGroup_joinAll (Group.regroups_of_running ?_ hrunning fun h => ?_) hrunning _
    · rfl
    · exact ⟨h.1, h.2.1⟩

end

/-! ### The boundary (R63, R82, R86) -/

section
variable {K : Prop} {s u : State} {f : FlowIx} {x : Flow}

theorem State.refersTo_running {g : GroupIx} (h : s.refersTo f = some g) : (s.group g).state = .running := by
  unfold State.refersTo at h
  split at h
  · split at h
    · next hled => exact Option.some.inj h ▸ hled.1
    · exact Option.noConfusion rfl (heq_of_eq h)
  · exact Option.noConfusion rfl (heq_of_eq h)

/-- What the group's part of a boundary of flow `f` leaves. -/
structure State.Bounded (K : Prop) (s : State) (f : FlowIx) (t : State) : Prop where
  keeps : s.Keeps K t
  resets : s.Resets t
  readIndex : (t.flow f).rt.readIndex = 0

/-- The reference goes on: its group, RUNNING, measures and takes in its READY members. -/
theorem State.bounded_of_plays (hx : s.Turns f x u) (hkeeps : s.Keeps K u) (hread : x.rt.readIndex = 0)
    (hplays : x.rt.state.playsOrHolds = true) : s.Bounded K f (u.groupPart f (s.refersTo f)) := by
  have hresets := hx.resets hread
  have hzero : (u.flow f).rt.readIndex = 0 := by rw [hx.flow_self, hread]
  have hpart : u.Keeps K (u.groupPart f (s.refersTo f)) ∧ u.Resets (u.groupPart f (s.refersTo f)) := by
    cases hled : s.refersTo f with
    | none => exact ⟨.settleGroupOf u f, State.resets_of_flows fun y => u.flow_settleGroupOf f y⟩
    | some g =>
      have hplays' : (u.flow f).rt.state = .playing ∨ (u.flow f).rt.state = .holding := by
        rw [hx.flow_self]; exact (FlowState.playsOrHolds_iff _).1 hplays
      obtain ⟨hsteps, hresets'⟩ := State.keeps_referenceSteps (K := K) (s := u) (g := g)
        (by rw [hx.group, State.refersTo_running hled]) f
      rw [State.groupPart, State.referenceBoundary_of_plays hplays']
      exact ⟨hsteps.trans (.settleGroup _ g), hresets'.trans
        (State.resets_of_flows fun y => by rw [State.settleGroup_eq]; rfl)⟩
  exact ⟨hkeeps.trans hpart.1, hresets.trans hpart.2, hpart.2.readIndex hzero⟩

/-- The flow plays and holds no more: its group is settled, the slip-done flag cleared where it was the reference. -/
theorem State.bounded_of_left (hx : s.Turns f x u) (hhead : (s.flow f).KeepsHead x)
    (hdraining : x.rt.state.isDraining = (s.flow f).rt.state.isDraining) (hread : x.rt.readIndex = 0)
    (hleft : x.rt.state.playsOrHolds = false) : s.Bounded K f (u.groupPart f (s.refersTo f)) := by
  have hleft' : (u.flow f).rt.state.playsOrHolds = false := by rw [hx.flow_self, hleft]
  have hflows (y : FlowIx) : (u.groupPart f (s.refersTo f)).flow y = u.flow y := by
    rw [State.groupPart_eq f _ hleft']
    rfl
  refine ⟨?_, (hx.resets hread).trans (State.resets_of_flows hflows), by rw [hflows, hx.flow_self, hread]⟩
  cases hled : s.refersTo f with
  | none => exact hx.keeps_settled (fun _ => hhead) (fun _ => hdraining) hleft
  | some g =>
    have hgroup : ((u.clearSlipDone g).flow f).record.group = some g := by
      change (u.flow f).record.group = some g
      rw [hx.flow_self, hx.change.record, State.refersTo_group hled]
    have hcleared : s.Keeps K (s.clearSlipDone g) := .setGroup s g ⟨rfl, id⟩
    have hturns : (s.clearSlipDone g).Turns f x (u.clearSlipDone g) := by
      obtain ⟨back, rs, rfl, hx⟩ := hx
      exact ⟨back, rs, rfl, hx⟩
    rw [State.groupPart_of_left g hleft', ← State.settleGroupOf_of_group hgroup]
    exact hcleared.trans (hturns.keeps_settled (fun _ => hhead) (fun _ => hdraining) hleft)

theorem State.Decides.bounded (h : s.Decides f x u) (hplayed : (s.flow f).rt.state.playsOrHolds = true) :
    s.Bounded K f ((s.ownBoundary f).groupPart f (s.refersTo f)) := by
  have hsame : x.rt.state.isDraining = (s.flow f).rt.state.isDraining := by
    rw [FlowState.not_draining_of_enabled h.enabled]
    obtain hp | hp := (FlowState.playsOrHolds_iff _).1 hplayed <;> rw [hp] <;> rfl
  have hx := h.turns
  have hown : (s.ownBoundary f).groupPart f (s.refersTo f) = u.groupPart f (s.refersTo f) := by
    obtain heq | ⟨hleft, heq⟩ := h.own
    · rw [heq]
    · rw [heq, State.groupPart_settleGroupOf (fun g hg => ?_) (by rw [hx.flow_self, hleft])]
      rw [hx.flow_self, hx.change.record, State.refersTo_group hg]
  rw [hown]
  cases hplays : x.rt.state.playsOrHolds with
  | true =>
    exact State.bounded_of_plays hx (hx.keeps (fun _ => h.head) (fun _ => hsame) (.inl (hplays.trans hplayed.symm)))
      h.readIndex hplays
  | false => exact State.bounded_of_left hx h.head hsame h.readIndex hplays

theorem State.resets_endDrain (s : State) (f : FlowIx) (forced : Bool) :
    s.Resets (s.endDrain f forced) ∧ ((s.endDrain f forced).flow f).rt.readIndex = 0 := by
  refine ⟨fun y => ?_, ?_⟩
  · rw [State.flow_endDrain]
    split
    · exact .inr rfl
    · exact .inl rfl
  · rw [State.flow_endDrain, if_pos rfl]; rfl

/-- The drain of a flow ends with its block; the flow was no reference. -/
theorem State.bounded_of_draining (h : (s.flow f).rt.state.isDraining = true) :
    s.Bounded K f ((s.ownBoundary f).groupPart f (s.refersTo f)) := by
  obtain ⟨m, hm⟩ := FlowState.exists_of_isDraining h
  have hown : s.ownBoundary f = s.drainBoundary f m := by simp only [State.ownBoundary, hm]
  have hdrained : s.Resets (s.drainBoundary f m) ∧ ((s.drainBoundary f m).flow f).rt.readIndex = 0 := by
    cases m with
    | playing =>
      rw [State.drainBoundary]
      obtain ⟨hresets, hzero⟩ := (s.count f .played).resets_endDrain f false
      refine ⟨fun y => ?_, hzero⟩
      by_cases hy : y = f
      · rw [hy]; exact .inr hzero
      · obtain hsame | hzero := hresets y
        · refine .inl (hsame.trans ?_)
          rw [(s.turns_count f .played).flow y, if_neg hy]
        · exact .inr hzero
    | holding => rw [State.drainBoundary]; exact s.resets_endDrain f false
  rw [hown, State.refersTo_of_not_plays (FlowState.playsOrHolds_of_draining hm), State.groupPart]
  refine ⟨(State.Keeps.drainBoundary h).trans (.settleGroupOf _ f), hdrained.1.trans
    (State.resets_of_flows fun y => State.flow_settleGroupOf _ f y), ?_⟩
  rw [State.flow_settleGroupOf]
  exact hdrained.2

theorem State.boundary_of_due (h : (s.flow f).boundaryDue = true) :
    s.boundary f = (s.ownBoundary f).groupPart f (s.refersTo f) :=
  Host.Outcome.next.inj (exec_blockBoundary h)

theorem State.bounded_of_due (h : (s.flow f).boundaryDue = true) : s.Bounded K f (s.boundary f) := by
  rw [State.boundary_of_due h]
  obtain ⟨hplays | hholds | hdrains, -⟩ := (Flow.boundaryDue_iff _).1 h
  · obtain ⟨x, u, hdecides⟩ := State.decides_playing hplays
    exact hdecides.bounded (by rw [hplays]; rfl)
  · obtain ⟨x, u, hdecides⟩ := State.decides_holding hholds
    exact hdecides.bounded (by rw [hholds]; rfl)
  · exact State.bounded_of_draining hdrains

theorem State.boundary_of_not_due (h : (s.flow f).boundaryDue = false) : s.boundary f = s := by
  rw [State.boundary, if_neg (by rw [h]; exact Bool.false_ne_true)]

theorem State.Keeps.boundary (s : State) (f : FlowIx) : s.Keeps K (s.boundary f) := by
  cases h : (s.flow f).boundaryDue with
  | true => exact (State.bounded_of_due h).keeps
  | false => rw [State.boundary_of_not_due h]; exact .refl K s

/-! ### The boundaries before an edge (R63; log entry 6) -/

/-- A flow whose boundary is due and whose read index is not 0: the law of read indexes leaves no other due flow. -/
def Flow.overdue (fl : Flow) : Prop := fl.boundaryDue = true ∧ fl.rt.readIndex ≠ 0

theorem State.overdue_boundary {y : FlowIx} (h : ((s.boundary f).flow y).overdue) : y ≠ f ∧ (s.flow y).overdue := by
  cases hdue : (s.flow f).boundaryDue with
  | true =>
    have hb := State.bounded_of_due (K := False) hdue
    refine ⟨fun hy => h.2 (by rw [hy]; exact hb.readIndex), ?_⟩
    obtain hsame | hzero := hb.resets y
    · rw [← hsame]; exact h
    · exact absurd hzero h.2
  | false =>
    rw [State.boundary_of_not_due hdue] at h
    refine ⟨fun hy => ?_, h⟩
    have hdue' := h.1
    rw [hy, hdue] at hdue'
    exact Bool.noConfusion hdue'

theorem State.keeps_takeDueBoundaries (s : State) :
    s.Keeps K s.takeDueBoundaries ∧ ∀ y, ¬ (s.takeDueBoundaries.flow y).overdue := by
  have hfold (l : List FlowIx) (t : State) (hl : ∀ y, (t.flow y).overdue → y ∈ l) :
      ∀ y, ¬ ((l.foldl State.boundary t).flow y).overdue := by
    induction l generalizing t with
    | nil => exact fun y hy => List.not_mem_nil (hl y hy)
    | cons f l ih =>
      refine ih _ fun y hy => ?_
      obtain ⟨hne, hover⟩ := State.overdue_boundary hy
      exact (List.mem_cons.1 (hl y hover)).resolve_left hne
  rw [State.takeDueBoundaries_eq]
  refine ⟨(State.Keeps.orderTaken s _).trans (State.Keeps.foldl (fun t f => .boundary t f) _ _),
    hfold _ _ fun y hy => ?_⟩
  rw [State.orderTaken_eq] at hy
  exact (s.perm_openOrder _).mem_iff.2 (List.mem_filter.2 ⟨List.mem_finRange y, hy.1⟩)

end

end Sys2Proof.Machine
end

section
/-! What an edge keeps (R61 to R63, R84, R91 to R93, R97, R99): the boundaries before it, the starts and the advances. -/

namespace Sys2Proof.Machine

/-! ### A flow that starts, and one that has presented -/

section
variable {fl : Flow}

theorem Flow.headLength_lawful (h : fl.ReadLawful) : fl.headLength = 6 ∨ fl.headLength = 12 := by
  unfold Flow.headLength
  split
  · next b hb => exact h.head hb
  · exact .inr rfl

theorem Flow.change_starting (h : fl.rt.state = .ready) : fl.Change { fl with rt := fl.rt.toPlaying fl.headLength } :=
  (Flow.Change.refl fl).playing rfl rfl rfl rfl (by rw [h]; rfl)
    (fun hlaw => hlaw.noSpent (by rw [h]; exact nofun) (by rw [h]; rfl)) fun hr => Flow.headLength_lawful hr

theorem Flow.keepsHead_starting (h : fl.rt.state = .ready) :
    fl.KeepsHead { fl with rt := fl.rt.toPlaying fl.headLength } := by
  rintro - ⟨hheld, -⟩
  obtain ⟨b, hb⟩ := hheld (.inl h)
  exact ⟨fun _ => ⟨b, hb⟩, by rintro (h | h) <;> exact FlowState.noConfusion h⟩

theorem Flow.afterPresenting_keeps {α : Type} (part : Flow → α) (slip : Int)
    (hbump : ∀ x : Flow, part (x.bump .slips) = part x)
    (hread : ∀ n, part { fl with rt := { fl.rt with readIndex := n } } = part fl) :
    part (fl.afterPresenting slip) = part fl := by
  unfold Flow.afterPresenting
  dsimp only
  split
  · split
    · exact hread _
    · rw [hbump, hread]
  · rfl

/-- The advance of the read index stays within the block (R63). -/
theorem Flow.change_afterPresenting {slip : Int}
    (hroom : fl.ReadLawful → fl.rt.state.presenting = true →
      ∀ n, fl.rt.blockLen = some n → fl.rt.readIndex + advanceBy slip ≤ n) : fl.Change (fl.afterPresenting slip) := by
  unfold Flow.afterPresenting
  dsimp only
  split
  · next hpresents =>
    have hadvance : fl.Change { fl with rt := { fl.rt with readIndex := fl.rt.readIndex + advanceBy slip } } := by
      refine Flow.change_rt id id (fun h => ?_) (fun h => h.2.1) (fun h hp => ?_)
        fun _ hrests => absurd hpresents (by rw [hrests]; exact Bool.false_ne_true)
      · obtain ⟨-, -, -, -, hspent⟩ := h
        by_cases hno : fl.window.NoSpent
        · exact .inl hno
        · obtain ⟨k, hk⟩ := not_forall_not.1 hno
          exact .inr (hspent k hk).2
      · obtain ⟨-, -, hreads, -⟩ := id h
        obtain ⟨n, hblock, hn, -⟩ := hreads hp
        exact ⟨n, hblock, hn, hroom h hp n hblock⟩
    split
    · exact hadvance
    · exact hadvance.trans (Flow.change_bump _ .slips)
  · exact .refl fl

theorem Flow.keepsHead_afterPresenting (fl : Flow) (slip : Int) : fl.KeepsHead (fl.afterPresenting slip) :=
  Flow.keepsHead_of_state
    (Flow.afterPresenting_keeps (fun x => x.rt.state) slip (fun _ => rfl) fun _ => rfl)
    (Flow.afterPresenting_keeps (fun x => x.window.entryAt 0) slip (fun _ => rfl) fun _ => rfl)

end

/-! ### Slips (R91) -/

section
variable (s : State)

/-- A group that does not slip, one that repeats, and one that drops. -/
theorem State.slip_cases (g : GroupIx) :
    s.slip g = 0 ∨
      (s.maySlip g ∧ ((s.group g).debt < 0 ∧ s.slip g = -1 ∨ 0 < (s.group g).debt ∧ s.dropFits g ∧ s.slip g = 1)) := by
  by_cases hmay : s.maySlip g
  · obtain hneg | hzero | hpos := Int.lt_trichotomy (s.group g).debt 0
    · exact .inr ⟨hmay, .inl ⟨hneg, State.slip_repeats hmay hneg⟩⟩
    · exact .inl (State.slip_waits (.inl hzero))
    · by_cases hfits : s.dropFits g
      · exact .inr ⟨hmay, .inr ⟨hpos, hfits, State.slip_drops hmay hpos hfits⟩⟩
      · exact .inl (State.slip_waits (.inr ⟨hpos, hfits⟩))
  · exact .inl (State.slip_of_not_maySlip hmay)

/-- A slip brings the debt nearer to 0 (R91). -/
theorem State.lawful_afterSlip {g : GroupIx} (h : (s.group g).Lawful) : ((s.group g).afterSlip (s.slip g)).Lawful := by
  unfold Group.afterSlip
  split
  · exact h
  · next hslip =>
    obtain ⟨hlow, hhigh, -⟩ := h
    obtain hzero | ⟨⟨hrunning, -⟩, hcases⟩ := s.slip_cases g
    · exact absurd hzero hslip
    · have hdebt : -8 ≤ (s.group g).debt - s.slip g ∧ (s.group g).debt - s.slip g ≤ 8 := by
        obtain ⟨hneg, heq⟩ | ⟨hpos, -, heq⟩ := hcases <;> rw [heq] <;> omega
      exact ⟨hdebt.1, hdebt.2, fun hforming => by
        rw [show (s.group g).state = .forming from hforming] at hrunning
        exact GroupState.noConfusion hrunning⟩

/-- A flow's slip is its group's, of a group that may slip. -/
theorem State.slipOf_cases (f : FlowIx) :
    s.slipOf f = 0 ∨ s.slipOf f = -1 ∨
      (s.slipOf f = 1 ∧ ∃ n, (s.flow f).rt.blockLen = some n ∧ (s.flow f).rt.readIndex + 2 ≤ n) := by
  cases hg : (s.flow f).record.group with
  | none => exact .inl (State.slipOf_of_no_group hg)
  | some g =>
    by_cases hst : (s.flow f).rt.state = .playing
    · rw [State.slipOf_eq hg hst]
      obtain hzero | ⟨-, ⟨-, heq⟩ | ⟨-, hfits, heq⟩⟩ := s.slip_cases g
      · exact .inl hzero
      · exact .inr (.inl heq)
      · exact .inr (.inr ⟨heq, hfits f ⟨hg, hst⟩⟩)
    · exact .inl (State.slipOf_of_not_playing hst)

end

/-! ### The lane frame start (R61, R63, R84) -/

section
variable {K : Prop} {s : State}

/-- What a lane frame start makes of a flow whose boundary is not overdue. -/
theorem State.change_laneFrameStart (f : FlowIx) (h : ¬ (s.flow f).overdue) :
    (s.flow f).Change (s.laneFrameStart.flow f) ∧ (s.flow f).KeepsHead (s.laneFrameStart.flow f) := by
  rw [State.flow_laneFrameStart, State.flow_startAll]
  split
  · next hstarts =>
    have hready := State.startsNow_state hstarts
    have hslip : s.slipOf f = 0 := State.slipOf_of_not_playing (by rw [hready]; exact nofun)
    rw [hslip]
    refine ⟨(Flow.change_starting hready).trans (Flow.change_afterPresenting fun hr _ n hn => ?_), fun hlaw hhead => ?_⟩
    · obtain ⟨-, -, hreads, -⟩ := hr
      obtain ⟨m, hblock, hm, -⟩ := hreads rfl
      obtain rfl : m = n := Option.some.inj (hblock.symm.trans hn)
      change 0 + 1 ≤ m
      omega
    · exact Flow.keepsHead_afterPresenting _ 0 ((Flow.change_starting hready).lawful hlaw)
        (Flow.keepsHead_starting hready hlaw hhead)
  · refine ⟨Flow.change_afterPresenting fun hr hp n hn => ?_, Flow.keepsHead_afterPresenting _ _⟩
    obtain ⟨-, -, hreads, -⟩ := hr
    obtain ⟨m, hblock, hm, hread⟩ := hreads hp
    obtain rfl : m = n := Option.some.inj (hblock.symm.trans hn)
    have hlt : (s.flow f).rt.readIndex < m := by
      refine lt_of_le_of_ne hread fun heq => h ⟨(Flow.boundaryDue_iff _).2 ⟨(FlowState.presenting_iff _).1 hp, ?_⟩, ?_⟩
      · rw [hblock, heq]
      · omega
    obtain hzero | hrepeat | ⟨hdrop, n', hn', hfits⟩ := s.slipOf_cases f
    · rw [hzero]; exact hlt
    · rw [hrepeat]; exact hread
    · obtain rfl : n' = m := Option.some.inj (hn'.symm.trans hblock)
      rw [hdrop]; exact hfits

theorem State.held_laneFrameStart (f : FlowIx) : (s.laneFrameStart.flow f).held = (s.flow f).held := by
  rw [State.flow_laneFrameStart, Flow.afterPresenting_keeps Flow.held _ (fun _ => rfl) fun _ => rfl,
    State.flow_startAll]
  split <;> rfl

theorem State.record_laneFrameStart (f : FlowIx) : (s.laneFrameStart.flow f).record = (s.flow f).record := by
  rw [State.flow_laneFrameStart, Flow.afterPresenting_keeps Flow.record _ (fun _ => rfl) fun _ => rfl,
    State.record_startAll]

theorem State.state_laneFrameStart (f : FlowIx) :
    (s.laneFrameStart.flow f).rt.state = if s.startsNow f then .playing else (s.flow f).rt.state := by
  rw [State.flow_laneFrameStart,
    Flow.afterPresenting_keeps (fun x => x.rt.state) _ (fun _ => rfl) fun _ => rfl, State.flow_startAll]
  split <;> rfl

theorem State.isDraining_laneFrameStart (f : FlowIx) :
    (s.laneFrameStart.flow f).rt.state.isDraining = (s.flow f).rt.state.isDraining := by
  rw [State.state_laneFrameStart]
  split
  · next h => rw [State.startsNow_state h]; rfl
  · rfl

theorem State.candidate_laneFrameStart (g : GroupIx) (f : FlowIx) :
    s.laneFrameStart.candidate g f = true ↔
      s.candidate g f = true ∨ ((s.flow f).record.group = some g ∧ s.startsNow f = true) := by
  rw [State.candidate_iff, State.candidate_iff, State.record_laneFrameStart, State.state_laneFrameStart]
  cases hstarts : s.startsNow f with
  | true =>
    simp only [if_true, and_true]
    exact ⟨fun h => .inr h.1, fun h => h.elim (fun h => ⟨h.1, .inl trivial⟩) fun h => ⟨h, .inl trivial⟩⟩
  | false => simp

theorem State.stateOf_group_laneFrameStart (g : GroupIx) :
    (s.laneFrameStart.group g).state = .running ↔ s.groupStarts g = true ∨ (s.group g).state = .running := by
  have hslip : (s.laneFrameStart.group g).state = (s.startAll.group g).state := by
    rw [State.group_laneFrameStart, Group.afterSlip]
    split <;> rfl
  rw [hslip, State.group_startAll]
  cases hstarts : s.groupStarts g with
  | true => simp [Group.cleared]
  | false => simp

theorem State.keepsGroups_laneFrameStart : s.KeepsGroups s.laneFrameStart where
  groups h g := by
    rw [State.group_laneFrameStart, State.group_startAll]
    split
    · next hstarts =>
      rw [State.slip_of_groupStarts hstarts]
      exact ⟨show (-8 : Int) ≤ 0 by decide, show (0 : Int) ≤ 8 by decide, fun _ => rfl⟩
    · exact s.lawful_afterSlip (h g)
  references h := by
    rw [State.referencesLawful_iff] at h ⊢
    intro g
    simp only [State.stateOf_group_laneFrameStart, State.candidate_laneFrameStart, exists_or]
    rw [or_comm, h g]
    refine or_congr_right ⟨fun hstarts => ?_, fun ⟨f, hg, hstarts⟩ => ?_⟩
    · obtain ⟨-, ⟨f, ⟨hg, -⟩, hready⟩, -⟩ := (s.groupStarts_iff g).1 hstarts
      refine ⟨f, hg, ?_⟩
      rw [State.startsNow_of_group hg, hready, hstarts]
      rfl
    · rw [State.startsNow_of_group hg, Bool.and_eq_true] at hstarts
      exact hstarts.2

theorem State.ordinary_startRaises (f : FlowIx) : Ordinary (s.startRaises s.startAll f) := by
  rw [State.startRaises_eq]
  refine Ordinary.append ?_ ?_
  · split
    · intro r hr
      rw [List.mem_singleton.1 hr]
      exact nofun
    · exact nofun
  · split
    · exact nofun
    · exact s.ordinary_wrapRaises f _

theorem State.notice_laws_laneFrameStart (h : s.notice.Laws) : s.laneFrameStart.notice.Laws := by
  obtain ⟨order, hperm, heq⟩ := s.notice_laneFrameStart
  rw [heq]
  refine h.takeAll fun r hr => ?_
  obtain ⟨b, hb, hr⟩ := List.mem_flatten.1 hr
  obtain ⟨f, -, rfl⟩ := List.mem_map.1 (List.mem_filter.1 (hperm.mem_iff.1 hb)).1
  exact State.ordinary_startRaises f r hr

theorem LaneUnit.status_begin (l : LaneUnit) (words : Vector LongWord 64) : (l.begin words).status = l.status := rfl

theorem State.Keeps.laneFrameStart (h : ∀ f, ¬ (s.flow f).overdue) : s.Keeps K s.laneFrameStart where
  flows := .of_changes (fun f => (State.change_laneFrameStart f (h f)).1)
    (fun f => (State.change_laneFrameStart f (h f)).2)
    State.held_laneFrameStart (by rw [State.pool_laneFrameStart])
  groups := State.keepsGroups_laneFrameStart
  control := .of_frame s.mgmt_laneFrameStart (by rw [State.ring_laneFrameStart])
    (.inl (by rw [State.lane_laneFrameStart, LaneUnit.status_begin])) (fun _ => State.isDraining_laneFrameStart)
    State.notice_laws_laneFrameStart s.pending_laneFrameStart

/-! ### Edges (R99) -/

theorem State.Keeps.withLane (s : State) {l : LaneUnit} (h : l.status = s.lane.status ∨ l.status = .present) :
    s.Keeps K (s.withLane l) := .of_quiet rfl rfl rfl rfl rfl h id rfl

theorem State.Keeps.acquireEdge (s : State) : s.Keeps K s.acquireEdge := by
  unfold State.acquireEdge
  have hstatus := s.lane.status_begin (Vector.replicate 64 0)
  generalize s.lane.begin (Vector.replicate 64 0) = l at hstatus
  dsimp only
  split
  · exact .withLane s (.inl hstatus)
  · exact (State.Keeps.withLane s (l := { l with gap := 0, run := 0, status := .present }) (.inr rfl)).trans
      (.raise _ nofun)

theorem State.Keeps.edge (h : ∀ f, ¬ (s.flow f).overdue) : s.Keeps K s.edge := by
  unfold State.edge
  split
  · exact (State.Keeps.withLane s (l := { s.lane with gap := 0 }) (.inl rfl)).trans (.laneFrameStart h)
  · exact .acquireEdge s

theorem State.keeps_frameSyncEdge (s : State) : s.Keeps K s.takeDueBoundaries.edge := by
  obtain ⟨hkeeps, hdue⟩ := s.keeps_takeDueBoundaries (K := K)
  exact hkeeps.trans (.edge hdue)

end

end Sys2Proof.Machine
end

section
/-! What a tick keeps (R73 to R77, R98, R138, R155): the timers, and each item that ends at it. -/

namespace Sys2Proof.Machine

/-! ### The claim record (R136) -/

theorem State.Keeps.withClaim {K : Prop} (s : State) {k : Claim} (h : K → s.mgmt.claim.Lawful → k.Lawful) :
    s.Keeps K (s.withClaim k) :=
  ⟨.of_same (fun _ => rfl) rfl, .of_same (fun _ => rfl) fun _ => ⟨rfl, rfl⟩, id, h, id, id, rfl⟩

/-- The claim record without a holder. -/
def Claim.free : Claim := { holder := none, lease := 0, length := 0 }

theorem Claim.lawful_free : Claim.free.Lawful := ⟨fun _ => ⟨rfl, rfl⟩, fun h => absurd rfl h⟩

/-! ### The loss of the lane clock (R98, R99) -/

section
variable {K : Prop} {s : State}

theorem State.answerDrain_of_waiting {f : FlowIx} {c : QueuedCommand} (forced : Bool) (hd : s.mgmt.deferred = some f)
    (hq : s.mgmt.queue.head? = some c) : s.answerDrain f forced = s.answered c .done (flagByte forced) [] := by
  obtain ⟨qs, hqs⟩ := List.head?_eq_some_iff.1 hq
  rw [State.answerDrain, hqs]
  exact if_pos hd

theorem State.answerDrain_of_not_waiting {f : FlowIx} (forced : Bool)
    (h : ∀ c, s.mgmt.deferred = some f → s.mgmt.queue.head? ≠ some c) : s.answerDrain f forced = s := by
  obtain heq | ⟨c, hd, hq, -⟩ := s.answerDrain_cases f forced
  · exact heq
  · exact absurd hq (h c hd)

theorem State.answerDrain_withLane_withNotice (s : State) (l : LaneUnit) (n : NoticeUnit) (f : FlowIx) (forced : Bool) :
    ((s.withLane l).withNotice n).answerDrain f forced = ((s.answerDrain f forced).withLane l).withNotice n := by
  by_cases h : ∃ c, s.mgmt.deferred = some f ∧ s.mgmt.queue.head? = some c
  · obtain ⟨c, hd, hq⟩ := h
    rw [State.answerDrain_of_waiting (s := (s.withLane l).withNotice n) forced hd hq,
      State.answerDrain_of_waiting forced hd hq]
    rfl
  · have hnot (c : QueuedCommand) (hd : s.mgmt.deferred = some f) : s.mgmt.queue.head? ≠ some c :=
      fun hq => h ⟨c, hd, hq⟩
    rw [State.answerDrain_of_not_waiting (s := (s.withLane l).withNotice n) forced hnot,
      State.answerDrain_of_not_waiting forced hnot]

theorem State.endDrain_withLane_withNotice (s : State) (l : LaneUnit) (n : NoticeUnit) (f : FlowIx) (forced : Bool) :
    ((s.withLane l).withNotice n).endDrain f forced = ((s.endDrain f forced).withLane l).withNotice n := by
  rw [State.endDrain_eq_answerDrain, State.endDrain_eq_answerDrain, ← State.answerDrain_withLane_withNotice]
  rfl

theorem State.endDrains_withLane_withNotice (s : State) (l : LaneUnit) (n : NoticeUnit) :
    ((s.withLane l).withNotice n).endDrains = (s.endDrains.withLane l).withNotice n := by
  rw [State.endDrains_eq, State.endDrains_eq]
  exact List.foldl_hom (fun t : State => (t.withLane l).withNotice n) fun t f =>
    t.endDrain_withLane_withNotice l n f false

theorem State.not_draining_endDrains (s : State) (f : FlowIx) : (s.endDrains.flow f).rt.state.isDraining = false := by
  rw [State.endDrains_eq, State.flow_foldl (F := (Flow.emptied · (.cleared .disabled)))
    (fun t f x => t.flow_endDrain f false x) (show s.drainingFlows.Nodup from nodup_allFlows.filter _)]
  split
  · rfl
  · next h => exact Bool.eq_false_iff.2 (mt (s.mem_drainingFlows_iff f).2 h)

/-- Where no flow drains, the clock may be lost. -/
theorem State.Keeps.withLane_of_none (h : ∀ f, (s.flow f).rt.state.isDraining = false) (l : LaneUnit) :
    s.Keeps K (s.withLane l) := by
  refine ⟨.of_same (fun _ => rfl) rfl, .of_same (fun _ => rfl) fun _ => ⟨rfl, rfl⟩, id, fun _ => id, fun hd => ?_, id,
    rfl⟩
  obtain ⟨hdrains, -⟩ := id hd
  refine ⟨hdrains, fun f hf => ?_⟩
  have hdraining := (hdrains f).2 hf
  rw [h f] at hdraining
  exact Bool.noConfusion hdraining

theorem State.endDrains_notice (s : State) : s.endDrains.notice = s.notice := by
  refine State.endDrains_keeps (P := fun t => t.notice = s.notice) rfl fun t f _ ht => ?_
  rw [State.endDrain_eq_answerDrain]
  obtain h | ⟨c, -, -, h⟩ := State.answerDrain_cases ((t.setFlow f ((t.flow f).emptied (.cleared .disabled))).withPool
    (t.pool.released (t.flow f).held)) f false <;> rw [h] <;> exact ht

theorem State.Keeps.loseClock (s : State) : s.Keeps K s.loseClock := by
  cases h : s.lane.status with
  | absent =>
    rw [State.loseClock_absent h]
    exact .withLane s (.inl h.symm)
  | present =>
    rw [State.loseClock_present h, State.endDrains_withLane_withNotice, ← s.endDrains_notice]
    exact ((State.Keeps.endDrains s).trans (.withLane_of_none s.not_draining_endDrains _)).trans
      (.raise (s.endDrains.withLane _) nofun)

/-! ### The items -/

theorem State.turns_goLate (s : State) (f : FlowIx) :
    s.Turns f { s.flow f with rt := { (s.flow f).rt with late := true } } (s.goLate f) := by
  have hchange : (s.flow f).Change { s.flow f with rt := { (s.flow f).rt with late := true } } :=
    Flow.change_timers rfl rfl rfl fun h => h.2.1
  rw [State.goLate, State.setRt_eq]
  exact (State.turns_setFlow hchange rfl).raise nofun

theorem State.Keeps.goLate (s : State) (f : FlowIx) : s.Keeps K (s.goLate f) :=
  (s.turns_goLate f).keeps (fun _ => Flow.keepsHead_of_state rfl rfl) (fun _ => rfl) (.inl rfl)

theorem State.Keeps.endOverdue (s : State) (f : FlowIx) : s.Keeps K (s.endOverdue f) := by
  rw [State.endOverdue_eq]
  split
  · next h => exact .endDrain h true
  · exact .refl K s

theorem State.Keeps.expireClaim (s : State) : s.Keeps K s.expireClaim :=
  (State.Keeps.withClaim s fun _ _ => Claim.lawful_free).trans (.raise _ nofun)

/-- A cut is taken of an enabled flow alone. -/
theorem State.Keeps.takeFalling {i : Falling} (h : ∀ f, i = .cut f → (s.flow f).rt.state.enabled = true) :
    s.Keeps K (s.takeFalling i) := by
  cases i with
  | late f => exact .goLate s f
  | cut f => exact .cutFlow (h f rfl)
  | deadline f => exact .endOverdue s f
  | lease => exact .expireClaim s
  | gap => exact .loseClock s

/-- An item leaves an enabled flow enabled. -/
theorem State.enabled_takeFalling {i : Falling} {x : FlowIx} (h : (s.flow x).rt.state.enabled = true) :
    ((s.takeFalling i).flow x).rt.state.enabled = true := by
  have hdraining := FlowState.not_draining_of_enabled h
  by_cases hconcerns : i.concerns x
  · cases i with
    | late f =>
      obtain rfl : f = x := hconcerns
      rw [State.takeFalling, (s.turns_goLate f).flow_self]
      exact h
    | cut f =>
      obtain rfl : f = x := hconcerns
      obtain ⟨t, ht, heq⟩ := State.turns_cut (FlowState.matchable_of_enabled h)
      rw [State.takeFalling, heq, State.flow_settleGroupOf, ht.flow_self]
      rfl
    | deadline f =>
      obtain rfl : f = x := hconcerns
      rw [State.takeFalling, State.endOverdue_eq, hdraining, if_neg Bool.false_ne_true]
      exact h
    | lease => exact hconcerns.elim
    | gap => exact hconcerns.elim
  · rw [s.flow_takeFalling i hconcerns hdraining]
    exact h

/-! ### The timers -/

theorem State.pending_ticked (s : State) : s.ticked.pending = s.pending := by simp only [State.ticked]

theorem State.ring_ticked (s : State) : s.ticked.ring = s.ring := by simp only [State.ticked]

theorem State.status_ticked (s : State) : s.ticked.lane.status = s.lane.status := by simp only [State.ticked]

/-- Within the tick the lease may stand at 0: the claim record is not watched here. -/
theorem State.keeps_ticked (s : State) : s.Keeps False s.ticked := by
  refine ⟨.of_changes (fun y => ?_) (fun y => ?_) (fun y => by rw [State.flow_ticked]) (by rw [State.pool_ticked]),
    .of_same s.group_ticked fun y => by rw [State.flow_ticked]; exact ⟨rfl, rfl⟩,
    fun h => ?_, nofun, fun h => ?_, fun h => ?_, s.pending_ticked⟩
  · rw [State.flow_ticked]
    exact Flow.change_timers rfl rfl rfl fun h => h.2.1
  · rw [State.flow_ticked]
    exact Flow.keepsHead_of_state rfl rfl
  · rw [State.ManagementLawful, State.mgmt_ticked, State.ring_ticked]
    exact h
  · rw [State.DrainLawful, State.mgmt_ticked, State.status_ticked]
    simp only [State.state_ticked]
    exact h
  · rw [State.notice_ticked]
    exact State.noticeTick_laws h

theorem State.Keeps.orderTaken_of {α : Type} {t : State} (h : s.Keeps K t) (l : List α) : s.Keeps K (t.orderTaken l) :=
  h.trans (.orderTaken t l)

theorem State.flow_orderTaken {α : Type} (s : State) (l : List α) (f : FlowIx) :
    (s.orderTaken l).flow f = s.flow f := by
  rw [State.orderTaken_eq]; rfl

/-! ### The whole tick -/

theorem State.keeps_foldl_takeFalling {t : State} (hticked : s.Keeps False t)
    (htimed : ∀ f, (s.flow f).rt.state.timed = true → (t.flow f).rt.state.enabled = true) {l : List Falling}
    (hl : ∀ i ∈ l, i ∈ s.falling) : s.Keeps False (l.foldl State.takeFalling t) := by
  have hfold : s.Keeps False (l.foldl State.takeFalling t) ∧
      ∀ f, (s.flow f).rt.state.timed = true → ((l.foldl State.takeFalling t).flow f).rt.state.enabled = true := by
    refine List.foldlRecOn (motive := fun u => s.Keeps False u ∧
      ∀ f, (s.flow f).rt.state.timed = true → (u.flow f).rt.state.enabled = true) l State.takeFalling
        ⟨hticked, htimed⟩ ?_
    rintro u ⟨hkeeps, henabled⟩ i hi
    refine ⟨hkeeps.trans (.takeFalling fun f hf => henabled f ?_),
      fun f hf => State.enabled_takeFalling (henabled f hf)⟩
    subst hf
    exact ((s.cutFalls_iff f).1 ((s.mem_falling_iff _).1 (hl _ hi))).1
  exact hfold.1

theorem State.claim_foldl_takeFalling (l : List Falling) (t : State) :
    (l.foldl State.takeFalling t).mgmt.claim = if .lease ∈ l then .free else t.mgmt.claim := by
  induction l generalizing t with
  | nil => rfl
  | cons i l ih =>
    rw [List.foldl_cons, ih]
    by_cases hi : i = .lease
    · subst hi
      rw [if_pos List.mem_cons_self]
      split
      · rfl
      · rfl
    · rw [t.claim_takeFalling i hi]
      simp only [List.mem_cons, Ne.symm hi, false_or]

/-- The lease runs down by one, or the claim ends (R138). -/
theorem Claim.Lawful.tick {k : Claim} (h : k.Lawful) (hlease : ¬ (k.holder ≠ none ∧ k.lease = 1)) :
    ({ k with lease := k.lease - 1 } : Claim).Lawful := by
  obtain ⟨hfree, hheld⟩ := h
  refine ⟨fun hnone => ?_, fun hsome => ?_⟩
  · obtain ⟨hzero, hlength⟩ := hfree hnone
    exact ⟨by dsimp only; omega, hlength⟩
  · obtain ⟨hone, hle, hmax⟩ := hheld hsome
    have hne : k.lease ≠ 1 := fun h1 => hlease ⟨hsome, h1⟩
    exact ⟨by dsimp only; omega, by dsimp only; omega, hmax⟩

theorem State.keeps_tickTaking {first : List Falling} (hfirst : ∀ i ∈ first, i ∈ s.falling) :
    s.Keeps True (s.tickTaking first) := by
  rw [State.tickTaking_eq]
  set rest := s.falling.filter fun x => !first.contains x with hrest
  have hl (i : Falling) : i ∈ first ++ s.openOrder rest ↔ i ∈ s.falling := by
    rw [List.mem_append, (s.perm_openOrder _).mem_iff, hrest, List.mem_filter]
    constructor
    · rintro (h | h)
      · exact hfirst i h
      · exact h.1
    · intro h
      by_cases hi : i ∈ first
      · exact .inl hi
      · exact .inr ⟨h, by simpa using hi⟩
  have hkeeps := State.keeps_foldl_takeFalling (t := s.ticked.orderTaken rest) (s.keeps_ticked.orderTaken_of rest)
    (fun f hf => by
      rw [State.flow_orderTaken, State.state_ticked]
      exact FlowState.enabled_of_timed _ hf) (l := first ++ s.openOrder rest) fun i hi => (hl i).1 hi
  refine ⟨hkeeps.flows, hkeeps.groups, hkeeps.control.management, fun _ hclaim => ?_, hkeeps.control.drain,
    hkeeps.control.notice, hkeeps.control.pending⟩
  rw [State.claim_foldl_takeFalling]
  split
  · exact Claim.lawful_free
  · next hlease =>
    have hticked : (s.ticked.orderTaken rest).mgmt.claim = { s.mgmt.claim with lease := s.mgmt.claim.lease - 1 } := by
      have horder : (s.ticked.orderTaken rest).mgmt = s.ticked.mgmt := by rw [State.orderTaken_eq]
      rw [horder, State.mgmt_ticked]
    rw [hticked]
    exact hclaim.tick (mt (fun h => (hl .lease).2 ((s.mem_falling_iff .lease).2 (s.leaseFalls_iff.2 h))) hlease)

theorem State.keeps_tick_named {i : Falling} (b : Bool) (h : b = true → s.falls i = true) :
    s.Keeps True (if b then s.tickTaking [i] else s) := by
  split
  · next hb =>
    refine State.keeps_tickTaking fun j hj => ?_
    rw [List.mem_singleton.1 hj]
    exact (s.mem_falling_iff i).2 (h hb)
  · exact .refl True s

end

end Sys2Proof.Machine
end

section
/-! What the ring port's events keep (Sections 7, 8.2 and 9.4): carrier events, received frames, frames at the unit's own
rate. -/

namespace Sys2Proof.Machine

section
variable {K : Prop} {s t : State}

/-! ### Changes of the ring port and of the management engine alone -/

/-- The ring port may send answers, and take one more where there is room for it. -/
theorem State.Keeps.of_ring (hflows : t.flows = s.flows) (hpool : t.pool = s.pool) (hgroups : t.groups = s.groups)
    (hlane : t.lane = s.lane) (hmgmt : t.mgmt = s.mgmt)
    (hroom : s.ManagementLawful → t.ring.answers.length + s.mgmt.queue.length ≤ 8)
    (hnotice : s.notice.Laws → t.notice.Laws) (hpending : t.pending = s.pending) : s.Keeps K t := by
  have hflow (y : FlowIx) : t.flow y = s.flow y := by rw [State.flow, State.flow, hflows]
  refine ⟨.of_same hflow (by rw [hpool]), .of_same (fun g => by rw [State.group, State.group, hgroups]) fun y => ?_,
    fun h => ?_, fun _ h => by rw [hmgmt]; exact h, fun h => ?_, hnotice, hpending⟩
  · rw [hflow]; exact ⟨rfl, rfl⟩
  · have hroom := hroom h
    rw [State.ManagementLawful, hmgmt]
    obtain ⟨hqueue, -, hcache, hkeys⟩ := h
    exact ⟨hqueue, hroom, hcache, hkeys⟩
  · rw [State.DrainLawful, hmgmt, hlane]
    simp only [hflow]
    exact h

theorem State.Keeps.withRing (s : State) {r : RingPort} (h : r.answers = s.ring.answers) : s.Keeps K (s.withRing r) :=
  .of_ring rfl rfl rfl rfl rfl (fun hm => by
    obtain ⟨-, hroom, -⟩ := hm
    rw [State.ring_withRing, h]
    exact hroom) id rfl

theorem State.Keeps.emit (s : State) (frame : List Byte) : s.Keeps K (s.emit frame) := .withRing s rfl

theorem State.Keeps.withNotice (s : State) {n : NoticeUnit} (h : s.notice.Laws → n.Laws) : s.Keeps K (s.withNotice n) :=
  .of_ring rfl rfl rfl rfl rfl (fun hm => hm.2.1) h rfl

theorem State.Keeps.insertFrame (s : State) : s.Keeps K s.insertFrame := by
  obtain ⟨hflows, hpool, hgroups, hlane, hmgmt, -, hpending, hentries, -, -, hanswers⟩ := s.insertFrame_frame
  refine .of_ring hflows hpool hgroups hlane hmgmt (fun h => ?_) (fun h => h.congr (by rw [hentries])) hpending
  obtain ⟨-, hroom, -⟩ := h
  omega

/-- The command queue may grow at its back. -/
theorem State.Keeps.withMgmt (s : State) {m : Mgmt} (hclaim : m.claim = s.mgmt.claim)
    (hdeferred : m.deferred = s.mgmt.deferred)
    (hfront : ∀ c, s.mgmt.queue.head? = some c → m.queue.head? = some c)
    (hlaw : s.ManagementLawful → (s.withMgmt m).ManagementLawful) : s.Keeps K (s.withMgmt m) := by
  refine ⟨.of_same (fun _ => rfl) rfl, .of_same (fun _ => rfl) fun _ => ⟨rfl, rfl⟩, hlaw, fun _ h => ?_, fun h => ?_,
    id, rfl⟩
  · rw [State.mgmt_withMgmt, hclaim]; exact h
  · obtain ⟨hdrains, hwaits⟩ := h
    refine ⟨fun f => ?_, fun f hf => ?_⟩
    · rw [State.mgmt_withMgmt, hdeferred]; exact hdrains f
    · rw [State.mgmt_withMgmt, hdeferred] at hf
      obtain ⟨hpresent, c, hc, hcommand⟩ := hwaits f hf
      exact ⟨hpresent, c, hfront c hc, hcommand⟩

/-! ### Taking a command (R127 to R130) -/

theorem State.Keeps.loseCommand (s : State) : s.Keeps K s.loseCommand := .withMgmt s rfl rfl (fun _ => id) id

theorem State.Keeps.appendAnswer (s : State) (a : Answer) (h : s.answerRoom ≠ 0) : s.Keeps K (s.appendAnswer a) := by
  refine .of_ring rfl rfl rfl rfl rfl (fun _ => ?_) id rfl
  have hlength : (s.appendAnswer a).ring.answers.length = s.ring.answers.length + 1 := by simp [State.appendAnswer]
  rw [State.answerRoom] at h
  omega

/-- A new command's key is neither in the queue nor in the cache. -/
theorem State.Keeps.takeNew (s : State) {c : QueuedCommand}
    (hqueue : s.mgmt.queue.any (fun q => (q.origin == c.origin) && (q.tag == c.tag)) = false)
    (hcache : cachedAnswer s.mgmt.cache c = none) : s.Keeps K (s.takeNew c) := by
  unfold State.takeNew
  split
  · exact .loseCommand s
  next hroom =>
  split
  · next hfour =>
    refine .withMgmt s rfl rfl (fun d hd => ?_) fun h => ?_
    · obtain ⟨qs, hqs⟩ := List.head?_eq_some_iff.1 hd
      dsimp only
      rw [hqs]; rfl
    · obtain ⟨-, -, hcached, hkeys⟩ := h
      rw [State.answerRoom] at hroom
      refine ⟨?_, ?_, hcached, ?_⟩
      · rw [State.mgmt_withMgmt, List.length_append, List.length_singleton]; omega
      · rw [State.mgmt_withMgmt, State.ring_withMgmt, List.length_append, List.length_singleton]; omega
      · rw [Mgmt.keys, State.mgmt_withMgmt, List.map_append, List.append_assoc, List.map_singleton,
          List.singleton_append,
          List.nodup_middle, List.nodup_cons]
        refine ⟨fun hmem => ?_, hkeys⟩
        obtain hmem | hmem := List.mem_append.1 hmem
        · obtain ⟨q, hq, heq⟩ := List.mem_map.1 hmem
          obtain ⟨horigin, htag⟩ := Prod.mk.inj heq
          have := List.any_eq_false.1 hqueue q hq
          simp [horigin, htag] at this
        · obtain ⟨a, ha, heq⟩ := List.mem_map.1 hmem
          obtain ⟨horigin, htag⟩ := Prod.mk.inj heq
          have := List.find?_eq_none.1 hcache a ha
          simp [horigin, htag] at this
  · exact .appendAnswer s _ hroom

theorem State.Keeps.takeCommand (s : State) (bs : List Byte) : s.Keeps K (s.takeCommand bs) := by
  unfold State.takeCommand
  dsimp only
  split
  · exact .withMgmt s rfl rfl (fun _ => id) id
  split
  · exact .loseCommand s
  split
  · exact .withNotice s fun h => h.acknowledge _
  split
  · exact .withMgmt s rfl rfl (fun _ => id) id
  next hqueue =>
  split
  · split
    · exact .loseCommand s
    · next hroom => exact .appendAnswer s _ hroom
  · next hcache => exact .takeNew s (Bool.eq_false_iff.2 hqueue) hcache

/-! ### Addresses (R121 to R124, R160) -/

theorem State.Keeps.setAddress (s : State) (a : Addr) : s.Keeps K (s.setAddress a) := by
  unfold State.setAddress
  split
  · exact .refl K s
  · exact (State.Keeps.withRing s (r := { s.ring with own := a }) rfl).trans (.withNotice _ fun h => h.addressChanged)

theorem State.Keeps.rollcall (s : State) (bs : List Byte) : s.Keeps K (s.rollcall bs).1 := by
  by_cases hrenumber : byteAt bs 4 = 1
  · obtain ⟨a, next, heq, -⟩ := s.rollcall_renumber hrenumber
    rw [heq]
    exact .setAddress s a
  · by_cases hfill : byteAt bs 4 = 2
    · obtain ⟨a, next, count, heq, -⟩ := s.rollcall_fillIn hfill
      rw [heq]
      exact .setAddress s a
    · rw [s.rollcall_otherMode hrenumber hfill]
      exact .refl K s

/-! ### Received frames (R111, R116) -/

theorem State.Keeps.decideFrame (s : State) (bs : List Byte) : s.Keeps K (s.decideFrame bs) := by
  unfold State.decideFrame
  split
  · exact .insertFrame s
  split
  · exact .insertFrame s
  split
  · exact (State.Keeps.withRing s (r := { s.ring with orphans := s.ring.orphans + 1 }) rfl).trans (.insertFrame _)
  split
  · split
    · split
      · exact (State.Keeps.matched s _ bs).trans (.insertFrame _)
      · exact (State.Keeps.matched s _ bs).trans (.emit _ _)
    · exact .emit s _
  split
  · exact (State.Keeps.takeCommand s bs).trans (.insertFrame _)
  split
  · exact (State.Keeps.takeCommand s bs).trans (.emit _ _)
  split
  · exact (State.Keeps.rollcall s bs).trans (.emit _ _)
  · exact .emit s _

theorem State.Keeps.acquire (s : State) (bs : List Byte) : s.Keeps K (s.acquire bs) := by
  unfold State.acquire
  split
  · split
    · exact .withRing s rfl
    · exact (State.Keeps.withRing s (r := { s.ring with rx := .up, goodRun := 0, badRun := 0 }) rfl).trans
        (.raise _ nofun)
  · exact .withRing s rfl

theorem RingPort.answers_enterDown (r : RingPort) : r.enterDown.answers = r.answers := by
  unfold RingPort.enterDown
  split <;> rfl

theorem State.Keeps.badHeader (s : State) : s.Keeps K s.badHeader := by
  have hcounted : s.Keeps K ((s.withRing { s.ring with headerErrors := s.ring.headerErrors + 1 }).emit
    (fillFrame s.ring.own)) :=
    (State.Keeps.withRing s (r := { s.ring with headerErrors := s.ring.headerErrors + 1 }) rfl).trans (.emit _ _)
  unfold State.badHeader
  dsimp only
  generalize (s.withRing { s.ring with headerErrors := s.ring.headerErrors + 1 }).emit
    (fillFrame s.ring.own) = t at hcounted
  split
  · exact hcounted.trans (.withRing t rfl)
  · exact (hcounted.trans (.withRing t t.ring.answers_enterDown)).trans (.raise _ nofun)

/-! ### The events -/

theorem State.keeps_frameReceived (s : State) (bs : List Byte) :
    ∃ t, exec (.frameReceived bs) s = .next t ∧ s.Keeps K t := by
  change ∃ t, execFrameReceived bs s = .next t ∧ _
  unfold execFrameReceived
  split
  · exact ⟨s, rfl, .refl K s⟩
  split
  · exact ⟨s, rfl, .refl K s⟩
  · exact ⟨_, rfl, .acquire s bs⟩
  · split
    · exact ⟨_, rfl, (State.Keeps.withRing s (r := { s.ring with badRun := 0 }) rfl).trans (.decideFrame _ bs)⟩
    · exact ⟨_, rfl, .badHeader s⟩

theorem State.keeps_ownRateFrame (s : State) : ∃ t, exec .ownRateFrame s = .next t ∧ s.Keeps K t := by
  rw [exec_ownRateFrame]
  split
  · exact ⟨s, rfl, .refl K s⟩
  · exact ⟨_, rfl, .insertFrame s⟩

theorem State.keeps_carrierPresent (s : State) : ∃ t, exec .carrierPresent s = .next t ∧ s.Keeps K t := by
  refine ⟨_, rfl, .withRing s ?_⟩
  split <;> rfl

theorem State.keeps_carrierLoss (s : State) : ∃ t, exec .carrierLoss s = .next t ∧ s.Keeps K t := by
  change ∃ t, execCarrierLoss s = .next t ∧ _
  unfold execCarrierLoss
  dsimp only
  split
  · exact ⟨_, rfl, .withRing s rfl⟩
  · exact ⟨_, rfl, .withRing s rfl⟩
  · exact ⟨_, rfl, (State.Keeps.withRing s (r := { s.ring with carrier := false, rx := .down, badRun := 0 }) rfl).trans
      (.raise _ nofun)⟩

end

end Sys2Proof.Machine
end

section
/-! What the executions of commands keep (Sections 8.2, 8.4 to 8.7): the command in turn, its effect, its answer. -/

namespace Sys2Proof.Machine

section
variable {K : Prop} {s t : State} {c : QueuedCommand}

/-! ### The command in turn (R132, R135, R136) -/

theorem State.inTurn.answered (h : s.inTurn c) (status : Status) (detail : Byte) (data : List Byte) :
    s.Keeps K (s.answered c status detail data) := by
  obtain ⟨hd, hq⟩ := h
  exact .answered status detail data hq hd

theorem State.inTurn.of_mgmt (h : s.inTurn c) (heq : t.mgmt = s.mgmt) : t.inTurn c := by
  rw [State.inTurn, heq]; exact h

/-- An effect that leaves the management engine alone, and the answer DONE. -/
theorem State.inTurn.succeed (h : s.inTurn c) (heffect : s.Keeps K t) (heq : t.mgmt = s.mgmt) :
    s.Keeps K (t.succeed c) :=
  heffect.trans ((h.of_mgmt heq).answered .done 0 [])

theorem State.inTurn.refuse (h : s.inTurn c) (status : Status) (detail : Byte) : s.Keeps K (s.refuse c status detail) :=
  h.answered status detail []

theorem State.Keeps.reloaded (s : State) (c : QueuedCommand) : s.Keeps K (s.reloaded c) := by
  unfold State.reloaded
  split
  · next hholder =>
    refine .withClaim s (k := { s.mgmt.claim with lease := s.mgmt.claim.length }) fun _ h => ?_
    have hsome : s.mgmt.claim.holder ≠ none := by rw [hholder]; exact nofun
    obtain ⟨hone, hle, hmax⟩ := h.2 hsome
    exact ⟨fun hnone => absurd hnone hsome, fun _ => ⟨hone.trans hle, Nat.le_refl _, hmax⟩⟩
  · exact .refl K s

theorem State.inTurn_reloaded (h : s.inTurn c) : (s.reloaded c).inTurn c := by
  unfold State.reloaded
  split
  · exact h
  · exact h

theorem State.Keeps.execute (s : State) {isIt : QueuedCommand → Bool} {length : Nat} {needsClaim : Bool}
    {own : QueuedCommand → State → State}
    (hown : ∀ (u : State) (c : QueuedCommand), u.inTurn c → isIt c = true → c.length = length → u.Keeps K (own c u)) :
    s.Keeps K (s.execute isIt length needsClaim own) := by
  by_cases h : ∃ c, s.inTurn c ∧ isIt c = true
  · obtain ⟨c, hturn, hit⟩ := h
    have hturn' := State.inTurn_reloaded hturn
    rw [State.execute_eq s isIt length needsClaim own hturn hit]
    refine (State.Keeps.reloaded s c).trans ?_
    split
    · exact hturn'.answered _ _ _
    · split
      · exact hturn'.answered _ _ _
      · next hlength _ => exact hown _ c hturn' hit (not_not.1 hlength)
  · rw [State.execute_other s isIt length needsClaim own fun c hturn => Bool.eq_false_iff.2
      fun hit => h ⟨c, hturn, hit⟩]
    exact .refl K s

theorem State.keeps_withFlow {own : FlowIx → State} (h : s.inTurn c)
    (hown : ∀ f : FlowIx, (byteAt c.params 0).toNat = f.val → s.Keeps K (own f)) : s.Keeps K (s.withFlow c own) := by
  by_cases hindex : (byteAt c.params 0).toNat < 48
  · rw [State.withFlow_flow s own (f := ⟨_, hindex⟩) rfl]
    exact hown _ rfl
  · rw [State.withFlow_badIndex s own (Nat.le_of_not_lt hindex)]
    exact h.answered _ _ _

/-! ### Flow records (R7) -/

theorem parseRecord_inRange {r : List Byte} (h : recordFault r = none) :
    2 ≤ (parseRecord r).depth ∧ (parseRecord r).depth ≤ 32 ∧ 1 ≤ (parseRecord r).prime ∧
      (parseRecord r).prime ≤ (parseRecord r).depth := by
  classical
  rw [recordFault_eq, List.find?_range'_eq_none] at h
  have hok (id : Nat) (h1 : 1 ≤ id) (h14 : id < 15) : RecordFieldOk r id := by simpa using h id h1 h14
  obtain ⟨-, -, hdepth, -⟩ := hok 4 (by omega) (by omega)
  obtain ⟨-, -, -, hprime, -⟩ := hok 5 (by omega) (by omega)
  exact ⟨(hdepth rfl).1, (hdepth rfl).2, (hprime rfl).1, (hprime rfl).2⟩

theorem Flow.Lawful.disabled_record {fl : Flow} (h : fl.Lawful) (hstate : fl.rt.state = .disabled) {r : FlowRecord}
    (hr : 2 ≤ r.depth ∧ r.depth ≤ 32 ∧ 1 ≤ r.prime ∧ r.prime ≤ r.depth) :
    ({ fl.clearCounters with record := r } : Flow).Lawful := by
  obtain ⟨-, -, hheld, hempty, -⟩ := h
  refine ⟨hr, fun k _ => hempty (.inl hstate) k, hheld, fun _ => hempty (.inl hstate), fun k hk => ?_⟩
  have hk : fl.window.entryAt k = .spent := hk
  rw [hempty (.inl hstate) k] at hk
  exact Entry.noConfusion hk

/-- A DISABLED flow takes a new record: it is neither matchable nor a candidate. -/
theorem State.Keeps.setRecord {f : FlowIx} {r : FlowRecord} (hstate : (s.flow f).rt.state = .disabled)
    (hr : 2 ≤ r.depth ∧ r.depth ≤ 32 ∧ 1 ≤ r.prime ∧ r.prime ≤ r.depth) :
    s.Keeps K (s.setFlow f { (s.flow f).clearCounters with record := r }) := by
  set x : Flow := { (s.flow f).clearCounters with record := r } with hx
  have hflow (y : FlowIx) : (s.setFlow f x).flow y = if y = f then x else s.flow y := State.flow_setFlow s f y x
  have hxstate : x.rt.state = .disabled := hstate
  have hrt (y : FlowIx) : ((s.setFlow f x).flow y).rt = (s.flow y).rt := by
    rw [hflow y]
    split
    · next hy => rw [hy]; rfl
    · rfl
  have hrecord (y : FlowIx) (hm : (s.flow y).rt.state ≠ .disabled) :
      ((s.setFlow f x).flow y).record = (s.flow y).record := by
    rw [hflow y, if_neg fun hy : y = f => hm (hy ▸ hstate)]
  have hmatchable {y : FlowIx} (hm : (s.flow y).rt.state.matchable = true) : (s.flow y).rt.state ≠ .disabled :=
    fun h => by rw [h] at hm; exact Bool.noConfusion hm
  have howed (y : FlowIx) : ((s.setFlow f x).flow y).owed = (s.flow y).owed := by
    rw [hflow y]
    split
    · next hy => rw [hy, Flow.owed_of_not_matchable (by rw [hxstate]; rfl),
        Flow.owed_of_not_matchable (by rw [hstate]; rfl)]
    · rfl
  have hheld (y : FlowIx) : ((s.setFlow f x).flow y).held = (s.flow y).held := by
    rw [hflow y]
    split
    · next hy => rw [hy]; rfl
    · rfl
  refine ⟨⟨fun h => ?_, fun hp _ hh y => ?_, fun h y => ?_, fun h => ?_⟩,
    .of_candidates (fun _ => .refl _) fun g y => .inl ?_,
    .of_frame rfl rfl (.inl rfl) (fun _ y => by rw [hrt y]) id rfl⟩
  · obtain ⟨hlaws, htotal, hout⟩ := h
    refine ⟨fun y => ?_, ?_, ?_⟩
    · rw [hflow y]
      split
      · exact (hlaws f).disabled_record hstate hr
      · exact hlaws y
    · rw [State.heldTotal, List.map_congr_left fun y _ => hheld y]
      exact htotal
    · rw [State.outstanding, List.map_congr_left fun y _ => howed y]
      exact hout
  · rw [hflow y]
    split
    · exact Flow.keepsHead_free (fl := s.flow f) (.inl (.inl hxstate)) (hp.1 f) (hh f)
    · exact hh y
  · rw [hflow y]
    split
    · exact h f
    · exact h y
  · obtain ⟨hset, hdistinct⟩ := h
    refine ⟨fun y hy => ?_, fun y z hy hz hsame => ?_⟩
    · rw [hrt y] at hy
      rw [hrecord y (hmatchable hy)]
      exact hset y hy
    · rw [hrt y] at hy
      rw [hrt z] at hz
      rw [hrecord y (hmatchable hy), hrecord z (hmatchable hz)] at hsame
      exact hdistinct y z hy hz hsame
  · rw [State.candidate, State.candidate, State.isMember, State.isMember, hrt y]
    by_cases hd : (s.flow y).rt.state = .disabled
    · rw [hd]; rfl
    · rw [hrecord y hd]

theorem State.inTurn.setFlowRecord (h : s.inTurn c) (f : FlowIx) : s.Keeps K (s.setFlowRecord c f) := by
  unfold State.setFlowRecord
  dsimp only
  split
  · exact h.refuse _ _
  next hstate =>
  split
  · exact h.refuse _ _
  · next hok => exact h.succeed (.setRecord (not_not.1 hstate) (parseRecord_inRange hok)) rfl

/-! ### FLOW_ENABLE (R16 to R20) -/

theorem State.tag_ne_of_holderOfTag_none {tag : Half} (htag : tag ≠ 0) (h : s.holderOfTag tag = none) (y : FlowIx)
    (hy : (s.flow y).rt.state.matchable = true) : (s.flow y).record.tag ≠ tag := by
  rw [State.holderOfTag, if_neg htag] at h
  intro heq
  have := List.find?_eq_none.1 h y (List.mem_finRange y)
  simp [hy, heq] at this

/-- A DISABLED flow becomes IDLE: its tag is new, and its prime depth is free beyond what the others are owed. -/
theorem State.Keeps.enable {f : FlowIx} (hstate : (s.flow f).rt.state = .disabled) (htag : (s.flow f).record.tag ≠ 0)
    (hnone : s.holderOfTag (s.flow f).record.tag = none) (hfree : (s.flow f).record.prime ≤ s.sharedFree) :
    s.Keeps K (s.setRt f (.cleared .idle)) := by
  rw [State.setRt_eq]
  set x : Flow := { s.flow f with rt := .cleared .idle } with hx
  have hflow (y : FlowIx) : (s.setFlow f x).flow y = if y = f then x else s.flow y := State.flow_setFlow s f y x
  have hself : (s.setFlow f x).flow f = x := (hflow f).trans (if_pos rfl)
  have hother {y : FlowIx} (hy : y ≠ f) : (s.setFlow f x).flow y = s.flow y := (hflow y).trans (if_neg hy)
  have hxstate : x.rt.state = .idle := rfl
  refine ⟨⟨fun h => ?_, fun hp _ hh y => ?_, fun h y => ?_, fun h => ?_⟩, .of_same (fun _ => rfl) fun y => ?_,
    .of_frame rfl rfl (.inl rfl) (fun _ y => ?_) id rfl⟩
  · obtain ⟨hlaws, htotal, hout⟩ := h
    have hheld := sum_flow_changed hflow Flow.held
    have howed := sum_flow_changed hflow Flow.owed
    change (s.setFlow f x).heldTotal + _ = s.heldTotal + _ at hheld
    change (s.setFlow f x).outstanding + _ = s.outstanding + _ at howed
    have hsame : x.held = (s.flow f).held := rfl
    have hpool : (s.setFlow f x).pool = s.pool := rfl
    have hx_owed : x.owed ≤ (s.flow f).record.prime := by
      rw [Flow.owed_of_matchable rfl]
      exact Nat.sub_le _ _
    rw [State.sharedFree] at hfree
    refine ⟨fun y => ?_, by rw [hpool]; omega, by rw [hpool]; omega⟩
    rw [hflow y]
    split
    · obtain ⟨hrecord, hbeyond, hfill, hempty, -⟩ := hlaws f
      refine ⟨hrecord, hbeyond, hfill, fun _ => hempty (.inl hstate), fun k hk => ?_⟩
      have hk : (s.flow f).window.entryAt k = .spent := hk
      rw [hempty (.inl hstate) k] at hk
      exact Entry.noConfusion hk
    · exact hlaws y
  · rw [hflow y]
    split
    · exact Flow.keepsHead_free (fl := s.flow f) (.inl (.inr (.inl hxstate))) (hp.1 f) (hh f)
    · exact hh y
  · rw [hflow y]
    split
    · exact ⟨(h f).1, nofun, nofun, fun _ => ⟨rfl, rfl⟩⟩
    · exact h y
  · obtain ⟨hset, hdistinct⟩ := h
    have hnew (y : FlowIx) (hy : y ≠ f) (hm : (s.flow y).rt.state.matchable = true) :
        (s.flow y).record.tag ≠ (s.flow f).record.tag := State.tag_ne_of_holderOfTag_none htag hnone y hm
    refine ⟨fun y hm => ?_, fun y z hy hz hsame => ?_⟩
    · by_cases hy : y = f
      · rw [hy, hself]; exact htag
      · rw [hother hy] at hm ⊢; exact hset y hm
    · by_cases hyf : y = f <;> by_cases hzf : z = f
      · rw [hyf, hzf]
      · rw [hyf, hself, hother hzf] at hsame
        rw [hother hzf] at hz
        exact absurd hsame.symm (hnew z hzf hz)
      · rw [hzf, hself, hother hyf] at hsame
        rw [hother hyf] at hy
        exact absurd hsame (hnew y hyf hy)
      · rw [hother hyf] at hy hsame
        rw [hother hzf] at hz hsame
        exact hdistinct y z hy hz hsame
  · by_cases hy : y = f
    · rw [hy, hself, hxstate, hstate]; exact ⟨rfl, rfl⟩
    · rw [hother hy]; exact ⟨rfl, rfl⟩
  · by_cases hy : y = f
    · rw [hy, hself, hxstate, hstate]; rfl
    · rw [hother hy]

theorem State.inTurn.enableFlow (h : s.inTurn c) (f : FlowIx) : s.Keeps K (s.enableFlow c f) := by
  unfold State.enableFlow
  dsimp only
  split
  · exact h.refuse _ _
  next hstate =>
  split
  · exact h.refuse _ _
  next htag =>
  split
  · exact h.refuse _ _
  next hnone =>
  split
  · exact h.refuse _ _
  split
  · exact h.refuse _ _
  · next hfree => exact h.succeed (.enable (not_not.1 hstate) htag hnone (Nat.le_of_not_lt hfree)) rfl

/-! ### FLOW_DISABLE and FLOW_RESTART (R76, R78) -/

/-- No flow drains while a command is in turn (R143). -/
theorem State.inTurn.not_draining (h : s.inTurn c) (hdrain : s.DrainLawful) (f : FlowIx) :
    (s.flow f).rt.state.isDraining = false := by
  obtain ⟨hdrains, -⟩ := hdrain
  refine Bool.eq_false_iff.2 fun hf => ?_
  have hdeferred := h.1
  rw [(hdrains f).1 hf] at hdeferred
  exact Option.noConfusion rfl (heq_of_eq hdeferred)

theorem State.mgmt_stopFlow (s : State) (f : FlowIx) (x : FlowState) : (s.stopFlow f x).mgmt = s.mgmt := by
  rw [State.stopFlow_eq, State.mgmt_settleGroupOf]; rfl

theorem State.inTurn.disableFlow (h : s.inTurn c) {f : FlowIx} (hcode : c.code = 0x05) (hlength : c.length = 1)
    (hf : (byteAt c.params 0).toNat = f.val) : s.Keeps K (s.disableFlow c f) := by
  unfold State.disableFlow
  split
  · exact h.succeed (.refl K s) rfl
  · next hplays hpresent => exact .startDrain (m := .playing) hplays hpresent h.1 h.2 hcode hlength hf
  · next hholds hpresent => exact .startDrain (m := .holding) hholds hpresent h.1 h.2 hcode hlength hf
  · exact h.succeed (.stopFlow (.inl rfl) fun hdrain => h.not_draining hdrain f) (s.mgmt_stopFlow f _)

theorem State.inTurn.restartFlow (h : s.inTurn c) (f : FlowIx) : s.Keeps K (s.restartFlow c f) := by
  unfold State.restartFlow
  split
  · next henabled =>
    exact h.succeed (.stopFlow (.inr ⟨rfl, henabled⟩) fun _ => FlowState.not_draining_of_enabled henabled)
      (s.mgmt_stopFlow f _)
  · exact h.refuse _ _

/-! ### COUNTERS_GET (R140) -/

theorem Flow.change_clearCounters (fl : Flow) : fl.Change fl.clearCounters := Flow.change_counters

theorem State.Keeps.clearCounters (s : State) (f : FlowIx) : s.Keeps K (s.setFlow f (s.flow f).clearCounters) :=
  (State.turns_setFlow (s.flow f).change_clearCounters rfl).keeps
  (fun _ => Flow.keepsHead_of_state rfl rfl) (fun _ => rfl) (.inl rfl)

theorem State.inTurn.getCounters (h : s.inTurn c) : s.Keeps K (s.getCounters c) := by
  unfold State.getCounters
  split
  · exact h.refuse _ _
  split
  · exact h.refuse _ _
  refine State.keeps_withFlow h fun f _ => ?_
  dsimp only
  split
  · exact (State.Keeps.clearCounters s f).trans
      ((h.of_mgmt (t := s.setFlow f (s.flow f).clearCounters) rfl).answered _ _ _)
  · exact h.answered _ _ _

/-! ### UNIT_SET (R55, R145, R159) -/

theorem State.Keeps.withPool (s : State) {p : Pool} (h : p.free = s.pool.free) : s.Keeps K (s.withPool p) :=
  .of_quiet rfl h rfl rfl rfl (.inl rfl) id rfl

theorem State.Keeps.setThreshold (s : State) (n : Nat) : s.Keeps K (s.setThreshold n) := by
  unfold State.setThreshold
  split
  · exact .refl K s
  split
  · exact (State.Keeps.withPool s (p := { s.pool with threshold := n, armed := false }) rfl).trans (.raise _ nofun)
  · exact .withPool s rfl

theorem State.mgmt_setThreshold (s : State) (n : Nat) : (s.setThreshold n).mgmt = s.mgmt := by
  unfold State.setThreshold
  split
  · rfl
  · split <;> rfl

theorem State.Keeps.setUnit (s : State) (c : QueuedCommand) : s.Keeps K (s.setUnit c) := by
  rw [State.setUnit_eq]
  refine (State.Keeps.withNotice s fun h => ?_).trans (.setThreshold _ _)
  rw [← NoticeUnit.setMask_retry]
  exact (h.setMask _).congr rfl

/-! ### CLAIM and RELEASE (R137) -/

theorem State.inTurn.setClaim (h : s.inTurn c) {k : Claim} (hk : k.Lawful) : s.Keeps K ((s.withClaim k).succeed c) :=
  (State.Keeps.withClaim s fun _ _ => hk).trans (State.inTurn.answered (s := s.withClaim k) h .done 0 [])

theorem Claim.lawful_taken (a : Addr) {n : Nat} (hn : ¬ (n = 0 ∨ 60000 < n)) :
    ({ holder := some a, lease := n, length := n } : Claim).Lawful :=
  ⟨nofun, fun _ => ⟨by dsimp only; omega, Nat.le_refl _, by dsimp only; omega⟩⟩

end

end Sys2Proof.Machine
end

section
/-! What the resets keep (R8, R146, R147), and the laws of the whole unit over one event and one step. -/

namespace Sys2Proof.Machine

section
variable {K : Prop} {s t : State} {c : QueuedCommand}

/-! ### Scope COUNTERS (R164, R165) -/

/-- Other flows in the place of the flows, each in the state it had. -/
theorem State.Keeps.of_flows (fs : Vector Flow 48) (hchange : ∀ y : FlowIx, (s.flow y).Change fs[y.val])
    (hhead : ∀ y : FlowIx, (s.flow y).KeepsHead fs[y.val]) (hheld : ∀ y : FlowIx, fs[y.val].held = (s.flow y).held)
    (hstate : ∀ y : FlowIx, fs[y.val].rt.state = (s.flow y).rt.state) : s.Keeps K { s with flows := fs } :=
  ⟨.of_changes hchange hhead hheld rfl, .of_same (fun _ => rfl) fun y => ⟨(hchange y).record, congrArg _ (hstate y)⟩,
    .of_frame rfl rfl (.inl rfl) (fun _ y => congrArg _ (hstate y)) id rfl⟩

theorem State.Keeps.clearFlowCounters (s : State) : s.Keeps K s.clearFlowCounters := by
  unfold State.clearFlowCounters
  refine .of_flows _ (fun y => ?_) (fun y => ?_) (fun y => ?_) (fun y => ?_)
  all_goals rw [Vector.getElem_ofFn]
  · exact Flow.change_clearCounters _
  · exact Flow.keepsHead_of_state rfl rfl
  · rfl
  · rfl

theorem State.Keeps.clearUnitCounters (s : State) : s.Keeps K s.clearUnitCounters := by
  unfold State.clearUnitCounters
  refine ((State.Keeps.withRing s ?_).trans (.withMgmt _ ?_ ?_ ?_ ?_)).trans (.withNotice _ fun h => h.congr ?_)
  · rfl
  · rfl
  · rfl
  · exact fun _ => id
  · exact id
  · rfl

theorem State.Keeps.resetCounters (s : State) : s.Keeps K s.resetCounters :=
  (State.Keeps.clearFlowCounters s).trans (.clearUnitCounters _)

/-! ### Scope PLAYOUT (R56, R58, R95) -/

/-- A flush alone (R40). -/
theorem Flow.change_flushed (fl : Flow) : fl.Change (fl.emptied fl.rt) where
  record := rfl
  matchable := id
  lawful h := by
    obtain ⟨hrecord, -⟩ := h
    refine ⟨hrecord, fun k _ => fl.entryAt_emptied _ k, ?_, fun _ k => fl.entryAt_emptied _ k, fun k hk => ?_⟩
    · exact (Window.fill_noEntries _).symm
    · rw [Flow.entryAt_emptied] at hk
      exact Entry.noConfusion hk
  reads h := by
    refine ⟨fun k b hk => ?_, h.2⟩
    rw [Flow.entryAt_emptied] at hk
    exact Entry.noConfusion hk

theorem Flow.change_idled (fl : Flow) : fl.Change fl.idled := by
  unfold Flow.idled
  split
  · next h => exact Flow.change_emptied (.inr ⟨rfl, FlowState.matchable_of_enabled h⟩) rfl rfl rfl
  · exact fl.change_flushed

/-- A flow that does not drain is IDLE or DISABLED after a flush to IDLE. -/
theorem Flow.state_idled {fl : Flow} (h : fl.rt.state.isDraining = false) :
    fl.idled.rt.state = .idle ∨ fl.idled.rt.state = .disabled := by
  rw [Flow.idled_of_not_draining h]
  split
  · next hd => exact .inr hd
  · exact .inl rfl

theorem Flow.isDraining_idled (fl : Flow) : fl.idled.rt.state.isDraining = fl.rt.state.isDraining := by
  unfold Flow.idled
  split
  · next h => rw [FlowState.not_draining_of_enabled h]; rfl
  · rfl

theorem Flow.playsOrHolds_idled (fl : Flow) : fl.idled.rt.state.playsOrHolds = false := by
  cases h : fl.rt.state.isDraining with
  | true =>
    obtain ⟨m, hm⟩ := FlowState.exists_of_isDraining h
    have henabled : fl.rt.state.enabled = false := by rw [hm]; rfl
    rw [Flow.idled, henabled, if_neg Bool.false_ne_true]
    exact FlowState.playsOrHolds_of_draining hm
  | false => obtain hs | hs := Flow.state_idled h <;> rw [hs] <;> rfl

theorem State.turns_idleFlow (s : State) (f : FlowIx) : s.Turns f (s.flow f).idled (s.idleFlow f) :=
  ⟨_, [], s.idleFlow_eq f, nofun, (s.flow f).change_idled, fun _ => Nat.zero_add _⟩

theorem State.keeps_foldl_idleFlow (h : s.mgmt.deferred = none) (l : List FlowIx) :
    s.KeepsFlows (l.foldl State.idleFlow s) ∧ s.KeepsControl K (l.foldl State.idleFlow s) := by
  have hfold : (s.KeepsFlows (l.foldl State.idleFlow s) ∧ s.KeepsControl K (l.foldl State.idleFlow s)) ∧
      (l.foldl State.idleFlow s).mgmt.deferred = none := by
    refine List.foldlRecOn (motive := fun t => (s.KeepsFlows t ∧ s.KeepsControl K t) ∧ t.mgmt.deferred = none) l
      State.idleFlow ⟨⟨(State.Keeps.refl K s).flows, (State.Keeps.refl K s).control⟩, h⟩ ?_
    rintro t ⟨⟨hflows, hcontrol⟩, hd⟩ f -
    have hturns := t.turns_idleFlow f
    refine ⟨⟨hflows.trans hcontrol (hturns.keepsFlows fun hdrain => ?_), hcontrol.trans (hturns.keepsControl fun _ =>
      Flow.isDraining_idled _)⟩, by rw [State.idleFlow_eq]; exact hd⟩
    have hdraining : (t.flow f).rt.state.isDraining = false := by
      refine Bool.eq_false_iff.2 fun hf => ?_
      rw [(hdrain.1 f).1 hf] at hd
      exact Option.noConfusion rfl (heq_of_eq hd)
    obtain hs | hs := Flow.state_idled hdraining
    · exact Flow.keepsHead_free (.inl (.inr (.inl hs)))
    · exact Flow.keepsHead_free (.inl (.inl hs))
  exact hfold.1

theorem State.resetPlayout_foldl (s : State) :
    s.resetPlayout = { (allFlows.foldl State.idleFlow s) with
      pool := { (allFlows.foldl State.idleFlow s).pool with armed := true }
      groups := Vector.ofFn fun g => ((allFlows.foldl State.idleFlow s).group g).cleared .forming } := by
  unfold State.resetPlayout
  generalize allFlows.foldl State.idleFlow s = u
  rfl

theorem State.flow_resetPlayout (s : State) (f : FlowIx) : s.resetPlayout.flow f = (s.flow f).idled := by
  rw [State.resetPlayout_foldl, State.foldl_idleFlow_eq]
  simp [State.flow]

theorem State.group_resetPlayout (s : State) (g : GroupIx) :
    s.resetPlayout.group g = (s.group g).cleared .forming := by
  rw [State.resetPlayout_foldl, State.foldl_idleFlow_eq]
  simp [State.group]

theorem State.mgmt_resetPlayout (s : State) : s.resetPlayout.mgmt = s.mgmt := by
  rw [State.resetPlayout_foldl, State.foldl_idleFlow_eq]

theorem State.Keeps.resetPlayout (h : s.mgmt.deferred = none) : s.Keeps K s.resetPlayout := by
  obtain ⟨hflows, hcontrol⟩ := State.keeps_foldl_idleFlow (K := K) h allFlows
  have hgroup := s.group_resetPlayout
  have hflow := s.flow_resetPlayout
  rw [State.resetPlayout_foldl] at hgroup hflow ⊢
  generalize allFlows.foldl State.idleFlow s = u at hflows hcontrol hgroup hflow ⊢
  refine ⟨hflows.trans hcontrol (.of_same (fun _ => rfl) rfl), ⟨fun _ g => ?_, fun _ => ?_⟩,
    hcontrol.trans (.of_frame rfl rfl (.inl rfl) (fun _ _ => rfl) id rfl)⟩
  · rw [hgroup g]
    exact (s.group g).lawful_cleared_forming
  · rw [State.referencesLawful_iff]
    intro g
    rw [hgroup g]
    refine ⟨fun hforming => GroupState.noConfusion hforming, fun ⟨f, hf⟩ => ?_⟩
    rw [State.candidate, hflow f, Flow.playsOrHolds_idled, Bool.and_false] at hf
    exact Bool.noConfusion hf

/-! ### Scope CONFIG (R146, R147) -/

/-- The flow, with an empty window, as scope CONFIG leaves it. -/
def Flow.configured (fl : Flow) : Flow := { fl.clearCounters with record := .default, rt := .cleared .disabled }

section
variable {fl : Flow} (h : ∀ k, fl.window.entryAt k = .empty)
include h

theorem Flow.lawful_configured (hheld : fl.held = 0) : fl.configured.Lawful := by
  refine ⟨show 2 ≤ 8 ∧ 8 ≤ 32 ∧ 1 ≤ 3 ∧ 3 ≤ 8 by decide, fun k _ => h k, ?_, fun _ => h, fun k hk => ?_⟩
  · exact hheld.trans (Window.fill_eq_zero fun k => congrArg Entry.isHeld (h k)).symm
  · have hk : fl.window.entryAt k = .spent := hk
    rw [h k] at hk
    exact Entry.noConfusion hk

theorem Flow.readLawful_configured : fl.configured.ReadLawful := by
  refine ⟨fun k b hk => ?_, nofun, nofun, fun _ => ⟨rfl, rfl⟩⟩
  have hk : fl.window.entryAt k = .held b := hk
  rw [h k] at hk
  exact Entry.noConfusion hk

end

/-- Every flow DISABLED, where no flow plays, holds or drains and no buffer is held. -/
theorem State.Keeps.configured (fs : Vector Flow 48) (hfs : ∀ y : FlowIx, fs[y.val] = (s.flow y).configured)
    (hempty : ∀ (f : FlowIx) k, (s.flow f).window.entryAt k = .empty) (hheld : ∀ f, (s.flow f).held = 0)
    (hplays : ∀ f, (s.flow f).rt.state.playsOrHolds = false)
    (hdraining : s.DrainLawful → ∀ f, (s.flow f).rt.state.isDraining = false) : s.Keeps K { s with flows := fs } := by
  have hflow (y : FlowIx) : ({ s with flows := fs } : State).flow y = (s.flow y).configured := hfs y
  have hmatchable (y : FlowIx) : (s.flow y).configured.rt.state.matchable = false := rfl
  refine ⟨⟨fun hp => ?_, fun hp _ hh y => ?_, fun _ y => ?_, fun _ => ?_⟩,
    .of_candidates (fun _ => .refl _) fun g y => .inl ?_,
    .of_frame rfl rfl (.inl rfl) (fun hd y => ?_) id rfl⟩
  · obtain ⟨-, htotal, hout⟩ := hp
    refine ⟨fun y => ?_, ?_, ?_⟩
    · rw [hflow y]; exact Flow.lawful_configured (hempty y) (hheld y)
    · rw [State.heldTotal, List.map_congr_left fun y _ => show _ = (s.flow y).held by rw [hflow y]; rfl]
      exact htotal
    · rw [State.outstanding, sum_map_allFlows_eq_zero fun y => by
        rw [hflow y, Flow.owed_of_not_matchable (hmatchable y)]]
      exact Nat.zero_le _
  · rw [hflow y]
    exact Flow.keepsHead_free (fl := s.flow y) (.inl (.inl rfl)) (hp.1 y) (hh y)
  · rw [hflow y]; exact Flow.readLawful_configured (hempty y)
  · refine ⟨fun y hy => ?_, fun y z hy => ?_⟩
    all_goals
      rw [hflow y, hmatchable y] at hy
      exact Bool.noConfusion hy
  · rw [State.candidate, State.candidate, hflow y, hplays y, Bool.and_false]
    exact Bool.and_false _
  · rw [hflow y, hdraining hd y]; rfl

/-! The tables, one by one. -/

def State.resetGroups (s : State) : State := { s with groups := Vector.replicate 8 .reset }

def State.resetLanes (s : State) : State :=
  s.withLane { s.lane with map := LaneUnit.reset.map, lanes := LaneUnit.reset.lanes }

def State.resetMgmt (s : State) : State := s.withMgmt { s.mgmt with claim := .free, cache := [] }

def State.resetNotices (s : State) : State :=
  s.withNotice { NoticeUnit.reset with nextNumber := s.notice.nextNumber }

def State.resetMonitor (s : State) : State := s.withPool { s.pool with threshold := 0, armed := true }

/-- What scope CONFIG does beyond scope PLAYOUT and the flows (R146). -/
def State.resetTables (s : State) : State :=
  s.clearUnitCounters.resetMonitor.resetGroups.resetLanes.resetMgmt.resetNotices

theorem State.group_resetGroups (s : State) (g : GroupIx) : s.resetGroups.group g = .reset := by
  simp [State.resetGroups, State.group]

theorem State.Keeps.resetGroups (hplays : ∀ f, (s.flow f).rt.state.playsOrHolds = false) : s.Keeps K s.resetGroups := by
  refine ⟨.of_same (fun _ => rfl) rfl, ⟨fun _ g => ?_, fun _ => ?_⟩,
    .of_frame rfl rfl (.inl rfl) (fun _ _ => rfl) id rfl⟩
  · rw [State.group_resetGroups]
    exact ⟨by decide, by decide, fun _ => rfl⟩
  · rw [State.referencesLawful_iff]
    intro g
    rw [State.group_resetGroups]
    refine ⟨fun hforming => GroupState.noConfusion hforming, fun ⟨f, hf⟩ => ?_⟩
    have hnot : s.resetGroups.candidate g f = false := by
      rw [State.candidate]
      exact (congrArg _ (hplays f)).trans (Bool.and_false _)
    rw [hnot] at hf
    exact Bool.noConfusion hf

theorem State.Keeps.resetMgmt (s : State) : s.Keeps K s.resetMgmt := by
  have hcache (u : State) : u.Keeps K (u.withMgmt { u.mgmt with cache := [] }) := by
    refine .withMgmt u rfl rfl (fun _ => id) fun h => ?_
    obtain ⟨hqueue, hroom, -, hkeys⟩ := h
    refine ⟨hqueue, hroom, Nat.zero_le 4, hkeys.sublist ?_⟩
    exact (List.Sublist.refl _).append (List.nil_sublist _)
  exact (State.Keeps.withClaim s (k := .free) fun _ _ => Claim.lawful_free).trans (hcache _)

theorem NoticeUnit.laws_of_nil {n : NoticeUnit} (h : n.entries = []) : n.Laws := by
  rw [NoticeUnit.laws_iff, h]
  exact ⟨Nat.zero_le _, Nat.zero_le _, fun _ _ => Nat.zero_le _, fun _ _ => Nat.zero_le _, List.nodup_nil⟩

theorem State.resetConfig_eq_resetTables (s : State) :
    s.resetConfig =
      ({ s.resetPlayout with flows := Vector.ofFn fun f =>
      (s.resetPlayout.flow f).configured } : State).resetTables := by
  unfold State.resetConfig State.resetTables
  generalize s.resetPlayout = p
  rfl

theorem State.Keeps.resetTables (hplays : ∀ f, (s.flow f).rt.state.playsOrHolds = false) : s.Keeps K s.resetTables := by
  have hcounters : s.Keeps K s.clearUnitCounters := .clearUnitCounters s
  have hmonitor : s.clearUnitCounters.Keeps K s.clearUnitCounters.resetMonitor := .withPool _ rfl
  have hgroups : s.clearUnitCounters.resetMonitor.Keeps K s.clearUnitCounters.resetMonitor.resetGroups :=
    .resetGroups hplays
  unfold State.resetTables
  generalize s.clearUnitCounters.resetMonitor.resetGroups = u at hgroups
  have hlanes : u.Keeps K u.resetLanes := .withLane u (.inl rfl)
  have hnotices (v : State) : v.Keeps K v.resetNotices := .withNotice v fun _ => NoticeUnit.laws_of_nil rfl
  exact ((((hcounters.trans hmonitor).trans hgroups).trans hlanes).trans (.resetMgmt _)).trans (hnotices _)

theorem State.Keeps.resetConfig (h : s.mgmt.deferred = none) : s.Keeps K s.resetConfig := by
  refine (State.Keeps.resetPlayout h).trans ?_
  have hflow := s.flow_resetPlayout
  have hdeferred : s.resetPlayout.mgmt.deferred = none := by rw [State.mgmt_resetPlayout, h]
  rw [State.resetConfig_eq_resetTables]
  generalize s.resetPlayout = p at hflow hdeferred ⊢
  have hplays (f : FlowIx) : (p.flow f).rt.state.playsOrHolds = false := by rw [hflow f, Flow.playsOrHolds_idled]
  have hfs (y : FlowIx) : (Vector.ofFn fun f : FlowIx => (p.flow f).configured)[y.val] = (p.flow y).configured :=
    Vector.getElem_ofFn _
  generalize (Vector.ofFn fun f : FlowIx => (p.flow f).configured) = fs at hfs
  have hconfigured : p.Keeps K { p with flows := fs } := by
    refine .configured fs hfs (fun f k => ?_) (fun f => ?_) hplays fun hd f => ?_
    · rw [hflow f]; exact Flow.entryAt_emptied _ _ k
    · rw [hflow f]; rfl
    · refine Bool.eq_false_iff.2 fun hf => ?_
      rw [(hd.1 f).1 hf] at hdeferred
      exact Option.noConfusion rfl (heq_of_eq hdeferred)
  refine hconfigured.trans (.resetTables fun f => ?_)
  have hflow' : ({ p with flows := fs } : State).flow f = (p.flow f).configured := hfs f
  rw [hflow']
  rfl

theorem State.mgmt_clearUnitCounters (s : State) :
    s.clearUnitCounters.mgmt = { s.mgmt with crcErrors := 0, lost := 0, absorbed := 0 } := rfl

theorem State.inTurn.clearUnitCounters (h : s.inTurn c) : s.clearUnitCounters.inTurn c := by
  rw [State.inTurn, State.mgmt_clearUnitCounters]
  exact h

theorem State.inTurn.resetCounters (h : s.inTurn c) : s.resetCounters.inTurn c := by
  unfold State.resetCounters State.clearFlowCounters
  generalize (Vector.ofFn fun f : FlowIx => (s.flow f).clearCounters) = fs
  have hflows : ({ s with flows := fs } : State).inTurn c := h.of_mgmt rfl
  exact hflows.clearUnitCounters

theorem State.inTurn.resetMgmt (h : s.inTurn c) : s.resetMgmt.inTurn c := h

theorem State.inTurn.resetTables (h : s.inTurn c) : s.resetTables.inTurn c := by
  have hcounters := h.clearUnitCounters
  have hmonitor : s.clearUnitCounters.resetMonitor.inTurn c := hcounters.of_mgmt rfl
  unfold State.resetTables
  generalize s.clearUnitCounters.resetMonitor = u at hmonitor
  have hgroups : u.resetGroups.inTurn c := hmonitor.of_mgmt rfl
  generalize u.resetGroups = v at hgroups
  have hlanes : v.resetLanes.inTurn c := hgroups.of_mgmt rfl
  exact hlanes.resetMgmt.of_mgmt rfl

theorem State.inTurn.resetConfig (h : s.inTurn c) : s.resetConfig.inTurn c := by
  have hplayout : s.resetPlayout.inTurn c := h.of_mgmt s.mgmt_resetPlayout
  rw [State.resetConfig_eq_resetTables]
  generalize s.resetPlayout = p at hplayout
  generalize (Vector.ofFn fun f : FlowIx => (p.flow f).configured) = fs
  have hconfigured : ({ p with flows := fs } : State).inTurn c := hplayout.of_mgmt rfl
  exact hconfigured.resetTables

theorem State.inTurn.unitReset (h : s.inTurn c) {effect : State → State} (heffect : s.Keeps K (effect s))
    (hturn : (effect s).inTurn c) : s.Keeps K (s.unitReset effect c) := by
  unfold State.unitReset
  split
  · exact h.refuse _ _
  · exact heffect.trans (hturn.answered .done 0 [])

/-! ### Pin reset (R8) -/

/-- The laws hold of the state after pin reset, whatever the carrier level, the open orders and the commands that wait. -/
theorem State.Keeps.pinReset (s : State) : s.Keeps K { State.reset with
    ring := RingPort.enterDown { RingPort.reset with carrier := s.ring.carrier }
    choices := s.choices
    pending := s.pending } := by
  obtain ⟨hpool, hheads, hreads, htags, hgroups, hrefs, hmgmt, hdrain, hclaim, hnotice, hnumbers⟩ := lawsHoldAtReset
  generalize State.reset = r at *
  have hanswers : (RingPort.enterDown { RingPort.reset with carrier := s.ring.carrier }).answers = [] :=
    RingPort.answers_enterDown _
  generalize RingPort.enterDown { RingPort.reset with carrier := s.ring.carrier } = g at hanswers
  refine ⟨⟨fun _ => hpool, fun _ _ _ => hheads, fun _ => hreads, fun _ => htags⟩, ⟨fun _ => hgroups, fun _ => hrefs⟩,
    fun _ => ?_, fun _ _ => hclaim, fun _ => hdrain, fun _ => ⟨hnotice, hnumbers⟩, rfl⟩
  obtain ⟨hqueue, -, hcache, hkeys⟩ := hmgmt
  refine ⟨hqueue, ?_, hcache, hkeys⟩
  dsimp only
  rw [hanswers, List.length_nil]
  omega

/-! ### The executions -/

theorem hasCode_iff (code : Byte) (c : QueuedCommand) : hasCode code c = true ↔ c.code = code := beq_iff_eq

theorem State.keeps_unknownCommand (s : State) : ∃ t, exec .unknownCommand s = .next t ∧ s.Keeps K t := by
  rw [exec_unknownCommand]
  unfold execUnknownCommand
  refine ⟨_, rfl, ?_⟩
  split
  · next c cs hd hq =>
    have hturn : s.inTurn c := ⟨hd, by rw [hq]; rfl⟩
    split
    · exact (State.Keeps.reloaded s c).trans ((State.inTurn_reloaded hturn).refuse _ _)
    · exact .refl K s
  · exact .refl K s

theorem State.keeps_flowCommands (s : State) {i : Instr}
    (hi : i ∈ [.flowSet, .flowGet, .flowEnable, .flowDisable, .flowRestart, .countersGet]) :
    ∃ t, exec i s = .next t ∧ s.Keeps K t := by
  simp only [List.mem_cons, List.not_mem_nil, or_false] at hi
  obtain rfl | rfl | rfl | rfl | rfl | rfl := hi
  · exact ⟨_, rfl, .execute s fun u c h _ _ => State.keeps_withFlow h fun f _ => h.setFlowRecord f⟩
  · exact ⟨_, rfl, .execute s fun u c h _ _ => State.keeps_withFlow h fun f _ => h.answered _ _ _⟩
  · exact ⟨_, rfl, .execute s fun u c h _ _ => State.keeps_withFlow h fun f _ => h.enableFlow f⟩
  · exact ⟨_, rfl, .execute s fun u c h hcode hlength => State.keeps_withFlow h fun f hf =>
      h.disableFlow ((hasCode_iff _ c).1 hcode) hlength hf⟩
  · exact ⟨_, rfl, .execute s fun u c h _ _ => State.keeps_withFlow h fun f _ => h.restartFlow f⟩
  · exact ⟨_, rfl, .execute s fun u c h _ _ => h.getCounters⟩

theorem State.keeps_tableCommands (s : State) {i : Instr}
    (hi : i ∈ [.groupSet, .groupGet, .mapSet, .mapGet, .laneSet]) :
    ∃ t, exec i s = .next t ∧ s.Keeps K t := by
  simp only [List.mem_cons, List.not_mem_nil, or_false] at hi
  obtain rfl | rfl | rfl | rfl | rfl := hi
  · refine ⟨_, rfl, .execute s fun u c h _ _ => ?_⟩
    split
    · exact h.refuse _ _
    split
    · exact h.refuse _ _
    · exact h.succeed (.setGroup u _ ⟨rfl, id⟩) rfl
  · refine ⟨_, rfl, .execute s fun u c h _ _ => ?_⟩
    split
    · exact h.answered _ _ _
    · exact h.refuse _ _
  · refine ⟨_, rfl, .execute s fun u c h _ _ => ?_⟩
    split
    · split
      · exact h.succeed (.withLane u (.inl rfl)) rfl
      · exact h.refuse _ _
    · exact h.refuse _ _
  · refine ⟨_, rfl, .execute s fun u c h _ _ => ?_⟩
    split
    · exact h.answered _ _ _
    · exact h.refuse _ _
  · refine ⟨_, rfl, .execute s fun u c h _ _ => ?_⟩
    dsimp only
    split
    · exact h.refuse _ _
    split
    · exact h.refuse _ _
    split
    · exact h.refuse _ _
    · exact h.succeed (.withLane u (.inl rfl)) rfl

theorem State.keeps_unitCommands (s : State) {i : Instr}
    (hi : i ∈ [.statusGet, .unitSet, .unitResetCounters, .unitResetPlayout, .unitResetConfig, .claim, .release]) :
    ∃ t, exec i s = .next t ∧ s.Keeps K t := by
  simp only [List.mem_cons, List.not_mem_nil, or_false] at hi
  obtain rfl | rfl | rfl | rfl | rfl | rfl | rfl := hi
  · exact ⟨_, rfl, .execute s fun u c h _ _ => h.answered _ _ _⟩
  · refine ⟨_, rfl, .execute s fun u c h _ _ => ?_⟩
    split
    · exact h.refuse _ _
    · refine h.succeed (.setUnit u c) ?_
      rw [State.setUnit_eq, State.mgmt_setThreshold]
      rfl
  · exact ⟨_, rfl, .execute s fun u c h _ _ => h.unitReset (.resetCounters u) h.resetCounters⟩
  · exact ⟨_, rfl, .execute s fun u c h _ _ => h.unitReset (.resetPlayout h.1) (h.of_mgmt u.mgmt_resetPlayout)⟩
  · exact ⟨_, rfl, .execute s fun u c h _ _ => h.unitReset (.resetConfig h.1) h.resetConfig⟩
  · refine ⟨_, rfl, .execute s fun u c h _ _ => ?_⟩
    dsimp only
    split
    · exact h.refuse _ _
    next hlease =>
    split
    · exact h.setClaim (Claim.lawful_taken _ hlease)
    · split
      · exact h.setClaim (Claim.lawful_taken _ hlease)
      · exact h.refuse _ _
  · refine ⟨_, rfl, .execute s fun u c h _ _ => ?_⟩
    split
    · exact h.setClaim Claim.lawful_free
    · exact h.refuse _ _

/-! ### One event, one step -/

/-- Every event ends in a next state, and keeps every law of the unit. -/
theorem State.keeps_exec (i : Instr) (s : State) : ∃ t, exec i s = .next t ∧ s.Keeps True t := by
  cases i with
  | pinReset => exact ⟨_, exec_pinReset s, .pinReset s⟩
  | carrierPresent => exact s.keeps_carrierPresent
  | carrierLoss => exact s.keeps_carrierLoss
  | frameReceived bytes => exact s.keeps_frameReceived bytes
  | ownRateFrame => exact s.keeps_ownRateFrame
  | frameSyncEdge => exact ⟨_, exec_frameSyncEdge s, s.keeps_frameSyncEdge⟩
  | blockBoundary f => exact ⟨_, rfl, .boundary s f⟩
  | tick => exact ⟨_, exec_tick s, State.keeps_tickTaking nofun⟩
  | lateThreshold f => exact ⟨_, exec_lateThreshold s f, State.keeps_tick_named _ id⟩
  | cutThreshold f => exact ⟨_, exec_cutThreshold s f, State.keeps_tick_named _ id⟩
  | drainDeadline f => exact ⟨_, exec_drainDeadline s f, State.keeps_tick_named _ id⟩
  | leaseExpiry => exact ⟨_, exec_leaseExpiry s, State.keeps_tick_named _ id⟩
  | laneClockGap => exact ⟨_, exec_laneClockGap s, State.keeps_tick_named _ id⟩
  | noticeDue number =>
    refine ⟨_, exec_noticeDue s number, ?_⟩
    split
    · exact State.keeps_tickTaking nofun
    · exact .refl True s
  | laneBitClock => exact ⟨_, rfl, .withLane s (.inl rfl)⟩
  | unknownCommand => exact s.keeps_unknownCommand
  | flowSet | flowGet | flowEnable | flowDisable | flowRestart | countersGet => exact s.keeps_flowCommands (by simp)
  | groupSet | groupGet | mapSet | mapGet | laneSet => exact s.keeps_tableCommands (by simp)
  | statusGet | unitSet | unitResetCounters | unitResetPlayout | unitResetConfig | claim | release =>
    exact s.keeps_unitCommands (by simp)

/-- A step keeps every law, of a state whose queue of waiting commands may differ: no law speaks of that queue. -/
theorem State.keeps_step (h : step s = .next t) : ∃ p : List Instr, (s.withPending p).Keeps True t := by
  unfold step at h
  split at h
  · obtain rfl := Host.Outcome.next.inj h
    exact ⟨s.pending, .refl True s⟩
  · next c rest _ =>
    obtain ⟨u, hu, hkeeps⟩ := (s.withPending rest).keeps_exec c
    obtain rfl := Host.Outcome.next.inj (h.symm.trans hu)
    exact ⟨rest, hkeeps⟩

end

/-! ### The obligations -/

/-- Settles O2: whatever the event and the state, as each event's own lemma gives its next state. -/
theorem everyCommandEndsInNextState : Obligations.EveryCommandEndsInNextState := by
  unfold Obligations.EveryCommandEndsInNextState
  intro c s
  obtain ⟨t, ht, hkeeps⟩ := s.keeps_exec c
  exact ⟨t, ht, hkeeps.control.pending⟩

/-- Settles O5: each operation conserves buffers and takes none that is reserved, and each state is entered with the head it
asks for. -/
theorem stepKeepsPoolLaw : Obligations.StepKeepsPoolLaw := by
  unfold Obligations.StepKeepsPoolLaw
  refine ⟨fun s t hpool hstep => ?_, fun s t hpool hdrain hheads hstep => ?_⟩
  all_goals obtain ⟨p, hkeeps⟩ := State.keeps_step hstep
  · exact hkeeps.flows.pool hpool
  · exact hkeeps.flows.heads hpool hdrain hheads

/-- Settles O6: an edge takes every due boundary first, so that an advance finds room in its block. -/
theorem stepKeepsReadIndexLaw : Obligations.StepKeepsReadIndexLaw := by
  unfold Obligations.StepKeepsReadIndexLaw
  intro s t hreads hstep
  obtain ⟨p, hkeeps⟩ := State.keeps_step hstep
  exact hkeeps.flows.reads hreads

/-- Settles O7: only FLOW_ENABLE makes a flow matchable, and it looks for a holder of the tag first. -/
theorem stepKeepsTagLaw : Obligations.StepKeepsTagLaw := by
  unfold Obligations.StepKeepsTagLaw
  intro s t htags hstep
  obtain ⟨p, hkeeps⟩ := State.keeps_step hstep
  exact hkeeps.flows.tags htags

/-- Settles O8: a group is settled whenever a flow stops playing and holding, and joins are taken in RUNNING groups alone. -/
theorem stepKeepsGroupLaws : Obligations.StepKeepsGroupLaws := by
  unfold Obligations.StepKeepsGroupLaws
  refine ⟨fun s t hgroups hstep => ?_, fun s t hreferences hstep => ?_⟩
  all_goals obtain ⟨p, hkeeps⟩ := State.keeps_step hstep
  · exact hkeeps.groups.groups hgroups
  · exact hkeeps.groups.references hreferences

/-- Settles O9: an answer takes the place its command was owed; a lease that runs out ends its claim within the tick; a drain
ends with its answer. -/
theorem stepKeepsManagementLaws : Obligations.StepKeepsManagementLaws := by
  unfold Obligations.StepKeepsManagementLaws
  refine ⟨fun s t hmanagement hstep => ?_, fun s t hclaim hstep => ?_, fun s t hdrain hstep => ?_⟩
  all_goals obtain ⟨p, hkeeps⟩ := State.keeps_step hstep
  · exact hkeeps.control.management hmanagement
  · exact hkeeps.control.claim trivial hclaim
  · exact hkeeps.control.drain hdrain

/-- Settles O10: every operation on the notice list keeps its law, and a raise of kind OVERFLOW is the list's own alone. -/
theorem stepKeepsNoticeLaw : Obligations.StepKeepsNoticeLaw := by
  unfold Obligations.StepKeepsNoticeLaw
  intro s t hlawful hdistinct hstep
  obtain ⟨p, hkeeps⟩ := State.keeps_step hstep
  exact hkeeps.control.notice ⟨hlawful, hdistinct⟩

end Sys2Proof.Machine
end
